-- ==== Sys2Proof/Word.lean ====
section
/-! DEFINITION. The widths of the machine's values (spec `00_scope.md` R6).

A signed register (`B`, `NUM`, the slots of `R`) is held as its two's complement pattern (R6: "held in
two's complement"), and read as an integer by `BitVec.toInt`; the conversions `sN` and `uN` of R7 are then the
two readings `toInt` and `toNat` of one pattern. Assumption 2, DEDUCED, safe. -/

namespace Sys2Proof

/-- `u8` (R6), and the pattern of an `i8`. -/
abbrev Byte := BitVec 8

/-- `u16` (R6): an address, `L`, `EP`, `DP`; and the pattern of the `i16` register `B`. -/
abbrev Word := BitVec 16

/-- `u32` (R6): `CH`; and the pattern of the `i32` register `NUM`. -/
abbrev Word32 := BitVec 32

/-- `u64` (R6): `F` and `CNT`. -/
abbrev Word64 := BitVec 64

end Sys2Proof
end

