-- ==== Sys2Proof/Syntax.lean ====
section
/-! DEFINITION. The instructions: one constructor per row of the opcode table (spec `30_encoding.md` R90), its operands
in the order and width of its format (R81). An operand is the raw value of R82; how it is read (signed, as an
address, as a count) is the meaning's business. -/

namespace Sys2Proof

/-- The five states of `CHOICE` and of the operand of CHSET (`10_state.md` R37): numbered 0 to 4 by nesting depth. -/
inductive Choice where
  | depth0 | depth1 | depth2 | depth3 | depth4
  deriving DecidableEq, Repr

/-- The 85 instructions of R90. Only `rldi` can be ill-formed: its operand has 37 bytes (format V37), see `Instr.wf`. -/
inductive Instr where
  -- 40_engine_control.md
  /-- NOP (R115), opcode 0x00, format N. -/
  | nop
  /-- DOOM (R116), opcode 0x01, format N. -/
  | doom
  /-- CONCL (R118), opcode 0x02, format N. -/
  | concl
  /-- CLF (R119), opcode 0x03, format N. -/
  | clf
  /-- TGF (R120), opcode 0x04, format N. -/
  | tgf
  /-- SETDP (R123), opcode 0x05, format H. -/
  | setdp (addr : Word)
  -- 41_alu.md
  /-- ADD (R131), opcode 0x06, format N. -/
  | add
  /-- SUB (R132), opcode 0x07, format N. -/
  | sub
  /-- MUL (R133), opcode 0x08, format N. -/
  | mul
  /-- DIV (R134), opcode 0x09, format N. -/
  | div
  /-- MOD (R135), opcode 0x0A, format N. -/
  | mod
  /-- NOT (R136), opcode 0x0B, format N. -/
  | not
  /-- AND (R137), opcode 0x0C, format N. -/
  | and
  /-- OR (R138), opcode 0x0D, format N. -/
  | or
  /-- XOR (R139), opcode 0x0E, format N. -/
  | xor
  /-- CMP (R140), opcode 0x0F, format N. -/
  | cmp
  -- 42_regmove.md
  /-- LDAI (R150), opcode 0x10, format B. -/
  | ldai (imm : Byte)
  /-- LDAM (R151), opcode 0x11, format H. -/
  | ldam (addr : Word)
  /-- STAM (R152), opcode 0x12, format H. -/
  | stam (addr : Word)
  /-- LDBI (R153), opcode 0x13, format H. -/
  | ldbi (imm : Word)
  /-- LDBM (R154), opcode 0x14, format H. -/
  | ldbm (addr : Word)
  /-- STBM (R155), opcode 0x15, format H. -/
  | stbm (addr : Word)
  /-- LDLI (R156), opcode 0x16, format H. -/
  | ldli (imm : Word)
  /-- LDLM (R157), opcode 0x17, format H. -/
  | ldlm (addr : Word)
  /-- STLM (R158), opcode 0x18, format H. -/
  | stlm (addr : Word)
  /-- LDNUMI (R159), opcode 0x19, format W. -/
  | ldnumi (imm : Word32)
  -- 43_stack.md
  /-- SALLOC (R176), opcode 0x1A, format H. -/
  | salloc (n : Word)
  /-- SDEALLOC (R177), opcode 0x1B, format H. -/
  | sdealloc (n : Word)
  /-- PUSHI (R178), opcode 0x1C, format B. -/
  | pushi (imm : Byte)
  /-- PUSHW (R179), opcode 0x1D, format H. -/
  | pushw (imm : Word)
  /-- PUSHM (R180), opcode 0x1E, format H. -/
  | pushm (addr : Word)
  /-- POPM (R181), opcode 0x1F, format H. -/
  | popm (addr : Word)
  /-- PUSHA (R182), opcode 0x20, format N. -/
  | pusha
  /-- POPA (R183), opcode 0x21, format N. -/
  | popa
  /-- PUSHB (R184), opcode 0x22, format N. -/
  | pushb
  /-- POPB (R185), opcode 0x23, format N. -/
  | popb
  /-- PUSHL (R186), opcode 0x24, format N. -/
  | pushl
  /-- POPL (R187), opcode 0x25, format N. -/
  | popl
  /-- PUSHF (R188), opcode 0x26, format N. -/
  | pushf
  /-- POPF (R189), opcode 0x27, format N. -/
  | popf
  /-- PUSHCH (R190), opcode 0x28, format N. -/
  | pushch
  /-- POPCH (R191), opcode 0x29, format N. -/
  | popch
  /-- PUSHNUM (R192), opcode 0x2A, format N. -/
  | pushnum
  /-- POPNUM (R193), opcode 0x2B, format N. -/
  | popnum
  /-- PUSHS (R194), opcode 0x2C, format N. -/
  | pushs
  -- 44_jumps.md
  /-- PEP (R201), opcode 0x2D, format N. -/
  | pep
  /-- PEPZ (R202), opcode 0x2E, format N. -/
  | pepz
  /-- PEPP (R203), opcode 0x2F, format N. -/
  | pepp
  /-- PEPN (R204), opcode 0x30, format N. -/
  | pepn
  /-- PEPF (R205), opcode 0x31, format N. -/
  | pepf
  /-- PEPAZ (R206), opcode 0x32, format N. -/
  | pepaz
  /-- PEPD (R207), opcode 0x33, format N. -/
  | pepd
  -- 45_array.md
  /-- RCLR (R216), opcode 0x34, format N. -/
  | rclr
  /-- RLDI (R217), opcode 0x35, format V37. -/
  | rldi (v : List Byte)
  /-- RLDM (R218), opcode 0x36, format H. -/
  | rldm (addr : Word)
  /-- RSTM (R219), opcode 0x37, format H. -/
  | rstm (addr : Word)
  /-- RGET (R220), opcode 0x38, format B. -/
  | rget (idx : Byte)
  /-- RSET (R221), opcode 0x39, format B. -/
  | rset (idx : Byte)
  /-- RSETI (R222), opcode 0x3A, format BB. -/
  | rseti (idx : Byte) (imm : Byte)
  /-- RCPM (R223), opcode 0x3B, format BBH. -/
  | rcpm (idx : Byte) (cnt : Byte) (addr : Word)
  -- 46_string.md
  /-- SCLR (R231), opcode 0x3C, format N. -/
  | sclr
  /-- SLDM (R232), opcode 0x3D, format H. -/
  | sldm (addr : Word)
  /-- SSTM (R233), opcode 0x3E, format H. -/
  | sstm (addr : Word)
  /-- SAPP (R234), opcode 0x3F, format N. -/
  | sapp
  /-- SAPPM (R235), opcode 0x40, format HB. -/
  | sappm (addr : Word) (n : Byte)
  /-- SGET (R236), opcode 0x41, format B. -/
  | sget (idx : Byte)
  /-- SSET (R237), opcode 0x42, format B. -/
  | sset (idx : Byte)
  /-- SLEN (R238), opcode 0x43, format N. -/
  | slen
  -- 47_flags.md
  /-- CHSET (R245), opcode 0x44, format C. -/
  | chset (c : Choice)
  /-- CHGETA (R246), opcode 0x45, format N. -/
  | chgeta
  /-- CNTINC (R247), opcode 0x46, format N. -/
  | cntinc
  /-- CNTDEC (R248), opcode 0x47, format N. -/
  | cntdec
  /-- PUSHCNT (R249), opcode 0x48, format N. -/
  | pushcnt
  /-- LATSET (R251), opcode 0x49, format N. -/
  | latset
  /-- LATCLR (R252), opcode 0x4A, format N. -/
  | latclr
  -- 48_io.md
  /-- GETCH (R263), opcode 0x4B, format N. -/
  | getch
  /-- GETLN (R264), opcode 0x4C, format N. -/
  | getln
  /-- WRCH (R265), opcode 0x4D, format N. -/
  | wrch
  /-- WRLNS (R266), opcode 0x4E, format N. -/
  | wrlns
  /-- WRLNM (R267), opcode 0x4F, format H. -/
  | wrlnm (addr : Word)
  -- 49_debug.md
  /-- TGDBG (R275), opcode 0x50, format N. -/
  | tgdbg
  /-- DBGST (R276), opcode 0x51, format N. -/
  | dbgst
  /-- DBGSTC (R277), opcode 0x52, format N. -/
  | dbgstc
  /-- DBGMEM (R278), opcode 0x53, format HH. -/
  | dbgmem (start : Word) (stop : Word)
  /-- DBGSTK (R279), opcode 0x54, format HH. -/
  | dbgstk (start : Word) (stop : Word)
  deriving DecidableEq, Repr

end Sys2Proof
end

