-- ==== Sys2Proof/Machine/Operands.lean ====
section
/-! DEFINITION. Operand forms: byte order, operand assembly, and the checked conversions (spec `00_scope.md` R7,
`20_memory.md` R62 to R64, `30_encoding.md` R82, `43_stack.md` R171 and R172). -/

namespace Sys2Proof

/-- The number whose least significant byte comes first in the list: the order of a value on the stack, bottom first
(R171, R172). -/
def leNat : List Byte → Nat
  | [] => 0
  | b :: bs => b.toNat + 256 * leNat bs

/-- The `n` low bytes of `v`, least significant first (R171). -/
def leBytes : Nat → Nat → List Byte
  | 0, _ => []
  | n + 1, v => BitVec.ofNat 8 v :: leBytes n (v / 256)

/-- The number whose most significant byte comes first (R62). -/
def beNat (bs : List Byte) : Nat := leNat bs.reverse

/-- The `n` low bytes of `v`, most significant first (R63, R82). -/
def beBytes (n v : Nat) : List Byte := (leBytes n v).reverse

/-- A 16-bit operand from its two bytes, the high one first (R82). -/
def beWord (hi lo : Byte) : Word := BitVec.ofNat 16 (beNat [hi, lo])

/-- A 32-bit operand from its four bytes, the highest first (R82). -/
def beWord32 (b3 b2 b1 b0 : Byte) : Word32 := BitVec.ofNat 32 (beNat [b3, b2, b1, b0])

/-- The choice a byte stands for: 0 to 4 (R82, R86); any other byte is none. -/
def choiceOfByte (b : Byte) : Option Choice :=
  match b.toNat with
  | 0 => some .depth0
  | 1 => some .depth1
  | 2 => some .depth2
  | 3 => some .depth3
  | 4 => some .depth4
  | _ => none

/-- The state number of a choice (`10_state.md` R37). -/
def choiceToByte : Choice → Byte
  | .depth0 => 0
  | .depth1 => 1
  | .depth2 => 2
  | .depth3 => 3
  | .depth4 => 4

/-- `isScalar(u)` (R7): the Unicode scalar values. -/
def isScalar (u : Word32) : Bool :=
  decide (u.toNat ≤ 0xD7FF) || (decide (0xE000 ≤ u.toNat) && decide (u.toNat ≤ 0x10FFFF))

/-- `wrap16(z)` (R7): the one `i16` congruent to `z` modulo 2^16, as its pattern. -/
def wrap16 (z : Int) : Word := BitVec.ofInt 16 z

/-- `fits16(z)` (R7). -/
def fits16 (z : Int) : Bool := decide (-32768 ≤ z) && decide (z ≤ 32767)

end Sys2Proof
end

