-- ==== Sys2Proof/WellFormed.lean ====
section
/-! DEFINITION. Which instructions are representable (spec `30_encoding.md` R88: "exactly the 85 kinds with operands in
the ranges of rule R81"). The operand types carry every range but one: the operand of RLDI is a list, and format V37
has exactly 37 bytes. -/

namespace Sys2Proof

/-- The operands are in the ranges of R81. -/
def Instr.wf : Instr → Bool
  | .rldi v => v.length == 37
  | .nop | .doom | .concl | .clf | .tgf | .setdp _ | .add | .sub | .mul | .div | .mod | .not | .and | .or
  | .xor | .cmp | .ldai _ | .ldam _ | .stam _ | .ldbi _ | .ldbm _ | .stbm _ | .ldli _ | .ldlm _ | .stlm _
  | .ldnumi _ | .salloc _ | .sdealloc _ | .pushi _ | .pushw _ | .pushm _ | .popm _ | .pusha | .popa | .pushb
  | .popb | .pushl | .popl | .pushf | .popf | .pushch | .popch | .pushnum | .popnum | .pushs | .pep | .pepz
  | .pepp | .pepn | .pepf | .pepaz | .pepd | .rclr | .rldm _ | .rstm _ | .rget _ | .rset _ | .rseti _ _
  | .rcpm _ _ _ | .sclr | .sldm _ | .sstm _ | .sapp | .sappm _ _ | .sget _ | .sset _ | .slen | .chset _
  | .chgeta | .cntinc | .cntdec | .pushcnt | .latset | .latclr | .getch | .getln | .wrch | .wrlns | .wrlnm _
  | .tgdbg | .dbgst | .dbgstc | .dbgmem _ _ | .dbgstk _ _ => true

end Sys2Proof
end

