-- ==== Sys2Proof/Decode.lean ====
section
/-! DEFINITION. The decoder, the encoder and the instruction lengths (spec `30_encoding.md` R80 to R90).

The decoder reads a sequence of bytes, the instruction's first byte first; `Machine/Ops.lean` gives it the bytes of
memory from an address on (`decodeAt`, R83). -/

namespace Sys2Proof

/-- Why a decode fails. -/
inductive DecodeError where
  /-- The opcode byte is 0x55 to 0xFF (R85); the engine takes `Fault(1, op)`. -/
  | invalidOpcode (op : Byte)
  /-- The operand byte of CHSET is 5 to 255 (R86); the engine takes `Fault(2, b)`. -/
  | invalidChoice (b : Byte)
  /-- Fewer bytes were given than the format has. No case of the spec: memory always has the bytes
  (`decodeAt_ne_truncated`). Assumption 10, DESIGN CHOICE, safe. -/
  | truncated
  deriving DecidableEq, Repr

/-- What a decode answers. -/
abbrev Decoded := Except DecodeError Instr

/-- Format N (R81): the opcode byte alone. -/
def formatN (i : Instr) (_ : List Byte) : Decoded := .ok i

/-- Format B: one operand byte. -/
def formatB (mk : Byte → Instr) : List Byte → Decoded
  | x :: _ => .ok (mk x)
  | _ => .error .truncated

/-- Format C: one choice byte, 0 to 4 (R86). -/
def formatC (mk : Choice → Instr) : List Byte → Decoded
  | x :: _ => match choiceOfByte x with
    | some c => .ok (mk c)
    | none => .error (.invalidChoice x)
  | _ => .error .truncated

/-- Format H: one 16-bit operand, most significant byte first. -/
def formatH (mk : Word → Instr) : List Byte → Decoded
  | x1 :: x0 :: _ => .ok (mk (beWord x1 x0))
  | _ => .error .truncated

/-- Format BB: two operand bytes. -/
def formatBB (mk : Byte → Byte → Instr) : List Byte → Decoded
  | x :: y :: _ => .ok (mk x y)
  | _ => .error .truncated

/-- Format HB: a 16-bit operand, then a byte. -/
def formatHB (mk : Word → Byte → Instr) : List Byte → Decoded
  | x1 :: x0 :: y :: _ => .ok (mk (beWord x1 x0) y)
  | _ => .error .truncated

/-- Format W: one 32-bit operand, most significant byte first. -/
def formatW (mk : Word32 → Instr) : List Byte → Decoded
  | x3 :: x2 :: x1 :: x0 :: _ => .ok (mk (beWord32 x3 x2 x1 x0))
  | _ => .error .truncated

/-- Format HH: two 16-bit operands. -/
def formatHH (mk : Word → Word → Instr) : List Byte → Decoded
  | x1 :: x0 :: y1 :: y0 :: _ => .ok (mk (beWord x1 x0) (beWord y1 y0))
  | _ => .error .truncated

/-- Format BBH: two bytes, then a 16-bit operand. -/
def formatBBH (mk : Byte → Byte → Word → Instr) : List Byte → Decoded
  | x :: y :: z1 :: z0 :: _ => .ok (mk x y (beWord z1 z0))
  | _ => .error .truncated

/-- Format V37: 37 operand bytes. -/
def formatV37 (mk : List Byte → Instr) (bs : List Byte) : Decoded :=
  if 37 ≤ bs.length then .ok (mk (bs.take 37)) else .error .truncated

/-- The dispatch of R83 and R90 on the opcode byte: the row's format applied to the row's instruction. -/
def decodeRow (op : Byte) (bs : List Byte) : Decoded :=
  match op.toNat with
  | 0x00 => formatN .nop bs
  | 0x01 => formatN .doom bs
  | 0x02 => formatN .concl bs
  | 0x03 => formatN .clf bs
  | 0x04 => formatN .tgf bs
  | 0x05 => formatH .setdp bs
  | 0x06 => formatN .add bs
  | 0x07 => formatN .sub bs
  | 0x08 => formatN .mul bs
  | 0x09 => formatN .div bs
  | 0x0A => formatN .mod bs
  | 0x0B => formatN .not bs
  | 0x0C => formatN .and bs
  | 0x0D => formatN .or bs
  | 0x0E => formatN .xor bs
  | 0x0F => formatN .cmp bs
  | 0x10 => formatB .ldai bs
  | 0x11 => formatH .ldam bs
  | 0x12 => formatH .stam bs
  | 0x13 => formatH .ldbi bs
  | 0x14 => formatH .ldbm bs
  | 0x15 => formatH .stbm bs
  | 0x16 => formatH .ldli bs
  | 0x17 => formatH .ldlm bs
  | 0x18 => formatH .stlm bs
  | 0x19 => formatW .ldnumi bs
  | 0x1A => formatH .salloc bs
  | 0x1B => formatH .sdealloc bs
  | 0x1C => formatB .pushi bs
  | 0x1D => formatH .pushw bs
  | 0x1E => formatH .pushm bs
  | 0x1F => formatH .popm bs
  | 0x20 => formatN .pusha bs
  | 0x21 => formatN .popa bs
  | 0x22 => formatN .pushb bs
  | 0x23 => formatN .popb bs
  | 0x24 => formatN .pushl bs
  | 0x25 => formatN .popl bs
  | 0x26 => formatN .pushf bs
  | 0x27 => formatN .popf bs
  | 0x28 => formatN .pushch bs
  | 0x29 => formatN .popch bs
  | 0x2A => formatN .pushnum bs
  | 0x2B => formatN .popnum bs
  | 0x2C => formatN .pushs bs
  | 0x2D => formatN .pep bs
  | 0x2E => formatN .pepz bs
  | 0x2F => formatN .pepp bs
  | 0x30 => formatN .pepn bs
  | 0x31 => formatN .pepf bs
  | 0x32 => formatN .pepaz bs
  | 0x33 => formatN .pepd bs
  | 0x34 => formatN .rclr bs
  | 0x35 => formatV37 .rldi bs
  | 0x36 => formatH .rldm bs
  | 0x37 => formatH .rstm bs
  | 0x38 => formatB .rget bs
  | 0x39 => formatB .rset bs
  | 0x3A => formatBB .rseti bs
  | 0x3B => formatBBH .rcpm bs
  | 0x3C => formatN .sclr bs
  | 0x3D => formatH .sldm bs
  | 0x3E => formatH .sstm bs
  | 0x3F => formatN .sapp bs
  | 0x40 => formatHB .sappm bs
  | 0x41 => formatB .sget bs
  | 0x42 => formatB .sset bs
  | 0x43 => formatN .slen bs
  | 0x44 => formatC .chset bs
  | 0x45 => formatN .chgeta bs
  | 0x46 => formatN .cntinc bs
  | 0x47 => formatN .cntdec bs
  | 0x48 => formatN .pushcnt bs
  | 0x49 => formatN .latset bs
  | 0x4A => formatN .latclr bs
  | 0x4B => formatN .getch bs
  | 0x4C => formatN .getln bs
  | 0x4D => formatN .wrch bs
  | 0x4E => formatN .wrlns bs
  | 0x4F => formatH .wrlnm bs
  | 0x50 => formatN .tgdbg bs
  | 0x51 => formatN .dbgst bs
  | 0x52 => formatN .dbgstc bs
  | 0x53 => formatHH .dbgmem bs
  | 0x54 => formatHH .dbgstk bs
  | _ => .error (.invalidOpcode op)

/-- `Decode` (R83) on the bytes from the instruction's first on. Total: a failure is named. -/
def decode : List Byte → Decoded
  | [] => .error .truncated
  | op :: rest => decodeRow op rest

/-- The length of an instruction in bytes: the `len` column of R90, the length of its format (R80, R84). -/
def Instr.length : Instr → Nat
  | .nop | .doom | .concl | .clf | .tgf | .add | .sub | .mul | .div | .mod | .not | .and | .or | .xor | .cmp
  | .pusha | .popa | .pushb | .popb | .pushl | .popl | .pushf | .popf | .pushch | .popch | .pushnum | .popnum
  | .pushs | .pep | .pepz | .pepp | .pepn | .pepf | .pepaz | .pepd | .rclr | .sclr | .sapp | .slen | .chgeta
  | .cntinc | .cntdec | .pushcnt | .latset | .latclr | .getch | .getln | .wrch | .wrlns | .tgdbg | .dbgst
  | .dbgstc => 1
  | .ldai _ | .pushi _ | .rget _ | .rset _ | .sget _ | .sset _ | .chset _ => 2
  | .setdp _ | .ldam _ | .stam _ | .ldbi _ | .ldbm _ | .stbm _ | .ldli _ | .ldlm _ | .stlm _ | .salloc _
  | .sdealloc _ | .pushw _ | .pushm _ | .popm _ | .rldm _ | .rstm _ | .rseti _ _ | .sldm _ | .sstm _
  | .wrlnm _ => 3
  | .sappm _ _ => 4
  | .ldnumi _ | .rcpm _ _ _ | .dbgmem _ _ | .dbgstk _ _ => 5
  | .rldi _ => 38

/-- The most bytes an instruction has (R80). -/
def maxLength : Nat := 38

/-- The bytes of an instruction: the opcode, then each operand in the layout of R81 ("writes the inverse layout", R88). -/
def encode : Instr → List Byte
  | .nop => [0x00]
  | .doom => [0x01]
  | .concl => [0x02]
  | .clf => [0x03]
  | .tgf => [0x04]
  | .setdp addr => 0x05 :: beBytes 2 addr.toNat
  | .add => [0x06]
  | .sub => [0x07]
  | .mul => [0x08]
  | .div => [0x09]
  | .mod => [0x0A]
  | .not => [0x0B]
  | .and => [0x0C]
  | .or => [0x0D]
  | .xor => [0x0E]
  | .cmp => [0x0F]
  | .ldai imm => [0x10, imm]
  | .ldam addr => 0x11 :: beBytes 2 addr.toNat
  | .stam addr => 0x12 :: beBytes 2 addr.toNat
  | .ldbi imm => 0x13 :: beBytes 2 imm.toNat
  | .ldbm addr => 0x14 :: beBytes 2 addr.toNat
  | .stbm addr => 0x15 :: beBytes 2 addr.toNat
  | .ldli imm => 0x16 :: beBytes 2 imm.toNat
  | .ldlm addr => 0x17 :: beBytes 2 addr.toNat
  | .stlm addr => 0x18 :: beBytes 2 addr.toNat
  | .ldnumi imm => 0x19 :: beBytes 4 imm.toNat
  | .salloc n => 0x1A :: beBytes 2 n.toNat
  | .sdealloc n => 0x1B :: beBytes 2 n.toNat
  | .pushi imm => [0x1C, imm]
  | .pushw imm => 0x1D :: beBytes 2 imm.toNat
  | .pushm addr => 0x1E :: beBytes 2 addr.toNat
  | .popm addr => 0x1F :: beBytes 2 addr.toNat
  | .pusha => [0x20]
  | .popa => [0x21]
  | .pushb => [0x22]
  | .popb => [0x23]
  | .pushl => [0x24]
  | .popl => [0x25]
  | .pushf => [0x26]
  | .popf => [0x27]
  | .pushch => [0x28]
  | .popch => [0x29]
  | .pushnum => [0x2A]
  | .popnum => [0x2B]
  | .pushs => [0x2C]
  | .pep => [0x2D]
  | .pepz => [0x2E]
  | .pepp => [0x2F]
  | .pepn => [0x30]
  | .pepf => [0x31]
  | .pepaz => [0x32]
  | .pepd => [0x33]
  | .rclr => [0x34]
  | .rldi v => 0x35 :: v
  | .rldm addr => 0x36 :: beBytes 2 addr.toNat
  | .rstm addr => 0x37 :: beBytes 2 addr.toNat
  | .rget idx => [0x38, idx]
  | .rset idx => [0x39, idx]
  | .rseti idx imm => [0x3A, idx, imm]
  | .rcpm idx cnt addr => 0x3B :: idx :: cnt :: beBytes 2 addr.toNat
  | .sclr => [0x3C]
  | .sldm addr => 0x3D :: beBytes 2 addr.toNat
  | .sstm addr => 0x3E :: beBytes 2 addr.toNat
  | .sapp => [0x3F]
  | .sappm addr n => 0x40 :: (beBytes 2 addr.toNat ++ [n])
  | .sget idx => [0x41, idx]
  | .sset idx => [0x42, idx]
  | .slen => [0x43]
  | .chset c => [0x44, choiceToByte c]
  | .chgeta => [0x45]
  | .cntinc => [0x46]
  | .cntdec => [0x47]
  | .pushcnt => [0x48]
  | .latset => [0x49]
  | .latclr => [0x4A]
  | .getch => [0x4B]
  | .getln => [0x4C]
  | .wrch => [0x4D]
  | .wrlns => [0x4E]
  | .wrlnm addr => 0x4F :: beBytes 2 addr.toNat
  | .tgdbg => [0x50]
  | .dbgst => [0x51]
  | .dbgstc => [0x52]
  | .dbgmem start stop => 0x53 :: (beBytes 2 start.toNat ++ beBytes 2 stop.toNat)
  | .dbgstk start stop => 0x54 :: (beBytes 2 start.toNat ++ beBytes 2 stop.toNat)

/-- The bytes of a table word: bit 0 of `w` is the least significant bit of the first byte, a later byte's bits count on
from it; the bits from `nbits` on are 0, up to the longest instruction. -/
def tableBytes (nbits w : Nat) : List Byte := leBytes maxLength (w % 2 ^ nbits)

/-- The instruction the decoder reads from a table word; `none` where it refuses. -/
def decodeTableWord (nbits w : Nat) : Option Instr := (decode (tableBytes nbits w)).toOption

end Sys2Proof
end

