-- ==== Sys2Proof/Config.lean ====
section
/-! DEFINITION. What an instance of the machine is built with (spec `00_scope.md` R5, `10_state.md` R56), and the
one value the spec leaves to the outside that the model holds free. -/

namespace Sys2Proof

/-- The configuration inputs of one instance, "sampled when the instance is created and ... constant for the run"
(R56). Their legal ranges are those of R5: 0 to 65535 and 0 to 255. -/
structure Params where
  /-- `STACK_CAP`: capacity of the bounded stack in bytes. -/
  stackCap : Fin 65536
  /-- `STR_CAP`: capacity of the string register in bytes. -/
  strCap : Fin 256
  /-- `VERBOSE`: when true, every output event carries `NUM` as a prefix (R261). -/
  verbose : Bool
  deriving DecidableEq, Repr

/-- The defaults of R5: 4095, 255, false. -/
def Params.reference : Params := { stackCap := 4095, strCap := 255, verbose := false }

/-- The line the host answers to the n-th `ReqLine` for which the state lists no answer (`48_io.md` R264,
`10_state.md` R54: "one `bytes` value of any length"). A FREE VALUE: it has no body, so nothing can be proved of it.
Assumption 5, DESIGN CHOICE, safe. -/
opaque Config.lineAnswer : Nat → List Byte

end Sys2Proof
end

