-- ==== Sys2Proof/Machine/State.lean ====
section
/-! DEFINITION. The state of one machine instance as plain data (spec `10_state.md`), the reasons a step can stop, and
the state after reset.

`ArchState` holds exactly the 20 elements of R20. `State` adds the configuration inputs (R56) and the host's side of
the output and input ports (R53, R54), which no element of R20 holds. -/

namespace Sys2Proof.Machine

/-- The bytes of memory that differ from 0, by address; an unlisted address reads 0 (`20_memory.md` R67: "or 0 if never
written"). Assumption 8, DEDUCED, safe. -/
abbrev Memory := List Host.Cell

/-- The canonical form: addresses strictly rising and inside the 65536 bytes of R32, and no byte equal to what an
unlisted address reads as. Equal memories are equal lists (`Memory.ext_of_wf`). -/
abbrev Memory.wf (m : Memory) : Prop :=
  m.Pairwise (fun p q => p.1 < q.1) ∧ ∀ p ∈ m, p.1 < 65536 ∧ p.2 ≠ 0

/-- The two causes of the fatal fault (`60_exceptions.md` R290): code 1, code 2. -/
inductive FaultCause where
  /-- Cause 1: the byte at `EP` is no opcode. -/
  | invalidOpcode
  /-- Cause 2: the operand byte of CHSET is no choice. -/
  | invalidChoice
  deriving DecidableEq, Repr

/-- The triple `FAULT` holds (R36): the cause, the offending byte, the address of the opcode byte. -/
structure FaultRecord where
  cause : FaultCause
  byte : Byte
  addr : Word
  deriving DecidableEq, Repr

/-- The 20 elements of R20; each field's rule is named beside it. Also the snapshot of `DumpFull` (R280). -/
structure ArchState where
  /-- `A`, `u8` (R21). -/
  a : Byte
  /-- `B`, `i16` as its pattern (R22). -/
  b : Word
  /-- `L`, `u16` (R23). -/
  l : Word
  /-- `EP`, the execution pointer (R24). -/
  ep : Word
  /-- `DP`, the dot pointer (R25). -/
  dp : Word
  /-- `F`, a 64-bit pattern (R26). -/
  f : Word64
  /-- `CH`, a Unicode scalar value (R27). -/
  ch : Word32
  /-- `NUM`, `i32` as its pattern (R28). -/
  num : Word32
  /-- `R[0..36]`, each slot an `i8` as its pattern (R29). -/
  r : List Byte
  /-- `S`, the string register (R30). -/
  str : List Byte
  /-- `STK`, bottom first (R31). -/
  stk : List Byte
  /-- `MEM` (R32). -/
  mem : Memory
  /-- `FLAG`, the sticky flag (R33). -/
  flag : Bool
  /-- `DBG` (R34). -/
  dbg : Bool
  /-- `HALTED` (R35). -/
  halted : Bool
  /-- `FAULT` (R36). -/
  fault : Option FaultRecord
  /-- `CHOICE` (R37). -/
  choice : Choice
  /-- `CNT`, `u64` (R38). -/
  cnt : Word64
  /-- `DOOM` (R39). -/
  doom : Bool
  /-- `LATCH` (R40). -/
  latch : Bool
  deriving DecidableEq, Repr

/-- The snapshot of `DumpCompact` (`49_debug.md` R280): the scalar state and two lengths. -/
structure CompactSnapshot where
  a : Byte
  b : Word
  l : Word
  f : Word64
  ch : Word32
  num : Word32
  ep : Word
  dp : Word
  flag : Bool
  dbg : Bool
  halted : Bool
  choice : Choice
  cnt : Word64
  doom : Bool
  latch : Bool
  /-- `|STK|`. -/
  stkLen : Nat
  /-- `|S|`. -/
  strLen : Nat
  deriving DecidableEq, Repr

/-- One item of output handed to the host (R53). `pfx` is none, or `NUM` when `VERBOSE` (R261). -/
inductive Event where
  /-- From WRCH. -/
  | outChar (pfx : Option Word32) (c : Word32)
  /-- From WRLNS and WRLNM. -/
  | outLine (pfx : Option Word32) (bs : List Byte)
  /-- From DBGST. -/
  | dumpFull (pfx : Option Word32) (snap : ArchState)
  /-- From DBGSTC. -/
  | dumpCompact (pfx : Option Word32) (snap : CompactSnapshot)
  /-- From DBGMEM. -/
  | dumpMem (pfx : Option Word32) (start : Word) (bs : List Byte)
  /-- From DBGSTK. -/
  | dumpStk (pfx : Option Word32) (start stop : Word) (bs : List Byte)
  deriving DecidableEq, Repr

/-- The state of one instance and of its ports. -/
structure State extends ArchState where
  /-- The configuration inputs, constant for a run (R56). Assumption 1. -/
  cfg : Params
  /-- The events handed to the host, oldest first (R53). The model's own field, assumption 6. -/
  trace : List Event
  /-- The host's answers to `ReqChar` that GETCH has not consumed (R54). The model's own field, assumption 4. -/
  keys : List Word32
  /-- The host's answers to `ReqLine` that GETLN has not consumed (R54). The model's own field, assumption 5. -/
  lines : List (List Byte)
  /-- How many line answers were free values, `Config.lineAnswer`. The model's own field, assumption 5. -/
  lineReqs : Nat
  deriving DecidableEq, Repr

/-- Why the machine has no further step. -/
inductive Fault where
  /-- Raised by `step` when `HALTED = 1`: "there is no step" (`40_engine_control.md` R110, R113). It carries `A`, the
  exit status (`10_state.md` R55). Safe: the spec gives no next state. Assumption 3. -/
  | halted (exitStatus : Byte)
  /-- Raised by `step` when `FAULT` is set: "there is no step" (R110, R113). It carries the triple the host words
  its message from (R55). Safe: the spec gives no next state. Assumption 3. -/
  | faulted (record : FaultRecord)
  deriving DecidableEq, Repr

/-- Why the model gives an instruction no meaning. -/
inductive Refusal where
  /-- Raised by an arm of `exec` for an instruction that has no meaning yet; no arm raises it. Safe. -/
  | notModelled (mnemonic : String)
  /-- Raised by `step` when the decoder was given too few bytes, which never happens (`Obligations.StepNeverRefuses`): memory
  always has the bytes. Safe. Assumption 10. -/
  | fetchTooShort
  deriving DecidableEq, Repr

/-- The zeroed elements (R43): "one Machine instance is created (zeroed/default state) per run". -/
def ArchState.zeroed : ArchState :=
  { a := 0, b := 0, l := 0, ep := 0, dp := 0, f := 0, ch := 0, num := 0, r := List.replicate 37 0, str := [],
    stk := [], mem := [], flag := false, dbg := false, halted := false, fault := none, choice := .depth0, cnt := 0,
    doom := false, latch := false }

/-- The creation of an instance with given configuration inputs (`70_reset_and_hazards.md` R315): every element takes
the value of R43; nothing has been output, and no answer is listed. -/
def State.create (p : Params) : State :=
  { ArchState.zeroed with cfg := p, trace := [], keys := [], lines := [], lineReqs := 0 }

/-- The machine right after reset, with the default parameters of R5 (`IMAGE` all zero). -/
def State.reset : State := State.create Params.reference

end Sys2Proof.Machine
end

