-- ==== Sys2Proof/Machine/Registers.lean ====
section
/-! DEFINITION. The writes to one element of state (spec `00_scope.md` R8: `A <- v`). "The registers do not alias one
another: a write to one changes no other. None is hardwired" (`10_state.md` R41): each is a plain field update, and
`Laws/State.lean` says of every field what each write leaves in it. -/

namespace Sys2Proof.Machine

/-- Write `A`. -/
def State.setA (s : State) (v : Byte) : State := { s with a := v }

/-- Write `B`. -/
def State.setB (s : State) (v : Word) : State := { s with b := v }

/-- Write `L`. -/
def State.setL (s : State) (v : Word) : State := { s with l := v }

/-- Write `EP`. -/
def State.setEp (s : State) (v : Word) : State := { s with ep := v }

/-- Write `DP`. -/
def State.setDp (s : State) (v : Word) : State := { s with dp := v }

/-- Write `F`. -/
def State.setF (s : State) (v : Word64) : State := { s with f := v }

/-- Write `CH`. -/
def State.setCh (s : State) (v : Word32) : State := { s with ch := v }

/-- Write `NUM`. -/
def State.setNum (s : State) (v : Word32) : State := { s with num := v }

/-- Write `R`. -/
def State.setR (s : State) (v : List Byte) : State := { s with r := v }

/-- Write `S`. -/
def State.setStr (s : State) (v : List Byte) : State := { s with str := v }

/-- Write `STK`. -/
def State.setStk (s : State) (v : List Byte) : State := { s with stk := v }

/-- Write `MEM`. -/
def State.setMem (s : State) (v : Memory) : State := { s with mem := v }

/-- Write `FLAG`. -/
def State.setFlag (s : State) (v : Bool) : State := { s with flag := v }

/-- Write `DBG`. -/
def State.setDbg (s : State) (v : Bool) : State := { s with dbg := v }

/-- Write `HALTED`. -/
def State.setHalted (s : State) (v : Bool) : State := { s with halted := v }

/-- Write `FAULT`. -/
def State.setFault (s : State) (v : Option FaultRecord) : State := { s with fault := v }

/-- Write `CHOICE`. -/
def State.setChoice (s : State) (v : Choice) : State := { s with choice := v }

/-- Write `CNT`. -/
def State.setCnt (s : State) (v : Word64) : State := { s with cnt := v }

/-- Write `DOOM`. -/
def State.setDoom (s : State) (v : Bool) : State := { s with doom := v }

/-- Write `LATCH`. -/
def State.setLatch (s : State) (v : Bool) : State := { s with latch := v }

/-- Write the output trace. -/
def State.setTrace (s : State) (v : List Event) : State := { s with trace := v }

/-- Write the listed answers to `ReqChar`. -/
def State.setKeys (s : State) (v : List Word32) : State := { s with keys := v }

/-- Write the listed answers to `ReqLine`. -/
def State.setLines (s : State) (v : List (List Byte)) : State := { s with lines := v }

/-- Write the count of free line answers. -/
def State.setLineReqs (s : State) (v : Nat) : State := { s with lineReqs := v }

end Sys2Proof.Machine
end

