-- ==== Sys2Proof/Machine/Flags.lean ====
section
/-! DEFINITION. The sticky flag (spec `10_state.md` R33) and the computations that set it in the arithmetic family
(`41_alu.md` R140, R141). FLAG is the only flag: "There is no carry flag, no zero flag, no sign flag" (R141 (f)). -/

namespace Sys2Proof.Machine

/-- `FLAG <- 1`: "the only way a rule reports a recoverable failure" (`00_scope.md` R8). -/
def State.raiseFlag (s : State) : State := s.setFlag true

/-- `if c: FLAG <- 1`; FLAG is never cleared by it (R33). -/
def State.raiseFlagIf (s : State) (c : Bool) : State := s.setFlag (s.flag || c)

/-- The overflow-checked result of ADD, SUB and MUL (R141 (b)): `B <- wrap16(z)`, and FLAG exactly when `z` does not
fit. -/
def State.writeChecked (s : State) (z : Int) : State := (s.setB (wrap16 z)).raiseFlagIf (!fits16 z)

/-- The clamped operand of CMP (R140): `L`, at most 32767. -/
def cmpOperand (l : Word) : Int := if 32767 < l.toNat then 32767 else l.toNat

/-- CMP's first flag cause: the operand was clamped (R140; `60_exceptions.md` R296 row 11). -/
def cmpOperandClamped (l : Word) : Bool := decide (32767 < l.toNat)

/-- The clamped result of CMP (R140): "clamp the result to max", also when `z` is below the range. -/
def cmpResult (z : Int) : Int := if fits16 z then z else 32767

/-- CMP's second flag cause: the result was clamped (R140; R296 row 12). -/
def cmpResultClamped (z : Int) : Bool := !fits16 z

end Sys2Proof.Machine
end

