-- ==== Sys2Proof/Machine/Ops.lean ====
section
/-! DEFINITION. The named operations the instructions share: memory, the bounded stack, the bounded string register,
the decoder and encoder over memory, the dot-pointer gate, the ports, the hold, and taking the fatal fault.

There is no return from the fault to stand beside it: "There is no return-from-trap instruction" (spec
`60_exceptions.md` R293). -/

namespace Sys2Proof.Machine

/-! ### Memory (`20_memory.md`) -/

/-- The byte at address number `k`; 0 where none is listed (R67). -/
def Memory.byteAt : Memory → Nat → Byte
  | [], _ => 0
  | (k, x) :: m, a => if k = a then x else Memory.byteAt m a

/-- Insert a cell before the first one with a higher address. -/
def Memory.insert (c : Host.Cell) : Memory → Memory
  | [] => [c]
  | d :: m => if c.1 < d.1 then c :: d :: m else d :: Memory.insert c m

/-- Write a byte at address number `k`, keeping the canonical form: the old entry goes, and a byte other than 0 gets a
new one. -/
def Memory.put (m : Memory) (k : Nat) (v : Byte) : Memory :=
  if v = 0 then m.filter (fun c => c.1 != k) else Memory.insert (k, v) (m.filter (fun c => c.1 != k))

/-- `MEM[a]` (R60). Every address exists, and none has a side effect (R67). -/
def Memory.read (m : Memory) (a : Word) : Byte := m.byteAt a.toNat

/-- `MEM[a] <- v`. -/
def Memory.write (m : Memory) (a : Word) (v : Byte) : Memory := m.put a.toNat v

/-- `MemBytes(a, n)` (R62); the address wraps modulo 65536 (R61). -/
def memBytes (m : Memory) : Word → Nat → List Byte
  | _, 0 => []
  | a, n + 1 => m.read a :: memBytes m (a + 1) n

/-- `MemRead(a, n)` (R62): the most significant byte is at `a`. -/
def memRead (m : Memory) (a : Word) (n : Nat) : Nat := beNat (memBytes m a n)

/-- `MemWriteBytes(a, bs)` (R63); the address wraps modulo 65536 (R61). -/
def memWriteBytes (m : Memory) : Word → List Byte → Memory
  | _, [] => m
  | a, b :: bs => memWriteBytes (m.write a b) (a + 1) bs

/-- `MemWrite(a, n, v)` (R63): the most significant byte goes to `a`. -/
def memWrite (m : Memory) (a : Word) (n v : Nat) : Memory := memWriteBytes m a (beBytes n v)

/-- The least `n < bound` with `MEM[a +16 n] = 0`, if there is one: the scan of `46_string.md` R232 and `48_io.md`
R267. -/
def firstZero (m : Memory) : Word → Nat → Option Nat
  | _, 0 => none
  | a, n + 1 => if m.read a = 0 then some 0 else (firstZero m (a + 1) n).map (· + 1)

/-! ### Decoding and encoding in memory (`30_encoding.md`) -/

/-- `Decode(a)` (R83): the instruction at `a` and its length, or the error. -/
def decodeAt (m : Memory) (a : Word) : Except DecodeError (Instr × Nat) :=
  match decode (memBytes m a maxLength) with
  | .ok i => .ok (i, i.length)
  | .error e => .error e

/-- `Encode(instr, a)` (R88): the memory with the instruction's bytes from `a` on, and the cursor after them. -/
def encodeAt (m : Memory) (i : Instr) (a : Word) : Memory × Word :=
  (memWriteBytes m a (encode i), a + BitVec.ofNat 16 i.length)

/-! ### The engine (`40_engine_control.md`, `60_exceptions.md`) -/

/-- `EP <- EP +16 len`: the fetch's advance, before the instruction executes (R111). -/
def State.advance (s : State) (len : Nat) : State := s.setEp (s.ep + BitVec.ofNat 16 len)

/-- TAKING THE FATAL FAULT, `raise Fault(cause, byte)` (R292), in a step that began at `EP`: `FAULT` is written, "and
nothing else: EP keeps the value", no register, no memory byte, no flag changes, no event is emitted. Control goes
nowhere: there is no vector, no handler, no saved status, no mode. -/
def State.takeFault (s : State) (cause : FaultCause) (byte : Byte) : State :=
  s.setFault (some { cause := cause, byte := byte, addr := s.ep })

/-- The hold of GETCH (`48_io.md` R263): the step is not complete, so the fetch's advance has not happened and the
state is that before the step. `len` is the length of the instruction that waits. Assumption 4, DESIGN CHOICE, safe. -/
def State.hold (s : State) (len : Nat) : State := s.setEp (s.ep - BitVec.ofNat 16 len)

/-! ### The bounded stack (`43_stack.md`) -/

/-- `StkPushBytes(bs)` (R170): all or nothing; `none` is overflow. -/
def stkPushBytes (cap : Nat) (stk bs : List Byte) : Option (List Byte) :=
  if cap < stk.length + bs.length then none else some (stk ++ bs)

/-- `StkPopVal(n)` (R172): the length is checked first; the top byte is the most significant; `none` is underflow. -/
def stkPopVal (n : Nat) (stk : List Byte) : Option (Nat × List Byte) :=
  if stk.length < n then none
  else some (leNat (stk.drop (stk.length - n)), stk.take (stk.length - n))

/-- `StkAlloc(n)` (R173): `n` zero bytes, all or nothing. -/
def stkAlloc (cap : Nat) (stk : List Byte) (n : Nat) : Option (List Byte) :=
  if cap < stk.length + n then none else some (stk ++ List.replicate n 0)

/-- `StkDealloc(n)` (R174); `none` is underflow. -/
def stkDealloc (stk : List Byte) (n : Nat) : Option (List Byte) :=
  if stk.length < n then none else some (stk.take (stk.length - n))

/-- The engine's reaction to the stack component's report (R175): the new stack, or `FLAG <- 1` and nothing else. -/
def State.stkOrFlag (s : State) : Option (List Byte) → State
  | none => s.raiseFlag
  | some k => s.setStk k

/-- Push bytes, the first deepest (R170, R175). -/
def State.pushBytes (s : State) (bs : List Byte) : State := s.stkOrFlag (stkPushBytes s.cfg.stackCap.val s.stk bs)

/-- `if StkPushVal(n, v) = overflow: FLAG <- 1` (R171, R175): least significant byte first. -/
def State.pushVal (s : State) (n v : Nat) : State := s.pushBytes (leBytes n v)

/-- `case StkPopVal(n) of underflow: FLAG <- 1 ; ok(v): ...` (R172, R175): `use` gets the value and the state with the
bytes removed. -/
def State.popVal (s : State) (n : Nat) (use : State → Nat → State) : State :=
  match stkPopVal n s.stk with
  | none => s.raiseFlag
  | some (v, rest) => use (s.setStk rest) v

/-- `PopEpIf(cond)` (`44_jumps.md` R200): no pop and no flag when the condition is false. -/
def State.popEpIf (s : State) (cond : Bool) : State :=
  if cond then s.popVal 2 (fun t v => t.setEp (BitVec.ofNat 16 v)) else s

/-! ### The bounded string register (`46_string.md`) -/

/-- `StrAppend(bs)` (R230): all or nothing; `none` is overflow. -/
def strAppend (cap : Nat) (str bs : List Byte) : Option (List Byte) :=
  if cap < str.length + bs.length then none else some (str ++ bs)

/-- The engine's reaction to the string component's report (R230): the new content, or `FLAG <- 1` and nothing else. -/
def State.strOrFlag (s : State) : Option (List Byte) → State
  | none => s.raiseFlag
  | some v => s.setStr v

/-! ### The dot pointer (`40_engine_control.md` R123, R124; `48_io.md` R260, R262) -/

/-- `ALLOW` (R124): the 14 addresses that are Fibonacci numbers and prime or semiprime. -/
def allowList : List Nat := [2, 3, 5, 13, 21, 34, 55, 89, 233, 377, 1597, 4181, 17711, 28657]

/-- `addr in ALLOW` (R124). -/
def allowed (addr : Word) : Bool := allowList.contains addr.toNat

/-- The sentinel byte, the character '.' (R260). -/
def sentinel : Byte := 0x2E

/-- `Gate()` (R260): `MEM[DP] = 0x2E`. -/
def State.gate (s : State) : Bool := s.mem.read s.dp == sentinel

/-- The common shape of every gated instruction (R262). -/
def State.gated (s : State) (body : State → State) : State := if s.gate then body s else s.raiseFlag

/-! ### The ports (`10_state.md` R53, R54; `48_io.md` R261) -/

/-- `Pfx()` (R261). -/
def State.pfx (s : State) : Option Word32 := if s.cfg.verbose then some s.num else none

/-- `Emit(e)` (R53): "appends `e`". -/
def State.emit (s : State) (e : Event) : State := s.setTrace (s.trace ++ [e])

/-- `c = answer of the host to ReqChar` (R54, R263): the first listed answer is consumed; while none is listed the
instruction, of length `len`, is held. -/
def State.takeKey (s : State) (len : Nat) (use : State → Word32 → State) : State :=
  match s.keys with
  | [] => s.hold len
  | c :: rest => use (s.setKeys rest) c

/-- `ln = answer of the host to ReqLine` (R54, R264): the first listed answer is consumed; where none is listed "the
answer ... is taken as available when asked" and is a free value. Assumption 5. -/
def State.takeLine (s : State) (use : State → List Byte → State) : State :=
  match s.lines with
  | [] => use (s.setLineReqs (s.lineReqs + 1)) (Config.lineAnswer s.lineReqs)
  | ln :: rest => use (s.setLines rest) ln

/-- The host answers a `ReqChar` (R54): an action of the host, between steps. Its duty is `isScalar c`. -/
def State.answerChar (s : State) (c : Word32) : State := s.setKeys (s.keys ++ [c])

/-- The host answers a `ReqLine` (R54): an action of the host, between steps. -/
def State.answerLine (s : State) (ln : List Byte) : State := s.setLines (s.lines ++ [ln])

/-- The snapshot of `DumpFull` (`49_debug.md` R280): "the value of every element of rule R20". -/
def State.fullSnapshot (s : State) : ArchState := s.toArchState

/-- The snapshot of `DumpCompact` (R280). -/
def State.compactSnapshot (s : State) : CompactSnapshot :=
  { a := s.a, b := s.b, l := s.l, f := s.f, ch := s.ch, num := s.num, ep := s.ep, dp := s.dp, flag := s.flag,
    dbg := s.dbg, halted := s.halted, choice := s.choice, cnt := s.cnt, doom := s.doom, latch := s.latch,
    stkLen := s.stk.length, strLen := s.str.length }

/-! ### The array register (`45_array.md` R215) -/

/-- The number of slots of `R` (R29). -/
abbrev slotCount : Nat := 37

/-- `R[i]`. -/
def State.slot (s : State) (i : Nat) : Byte := s.r.getD i 0

/-- `R[i] <- v`, or `FLAG <- 1` alone when the index is invalid (R215). -/
def State.setSlot (s : State) (idx v : Byte) : State :=
  if idx.toNat < slotCount then s.setR (s.r.set idx.toNat v) else s.raiseFlag

end Sys2Proof.Machine
end

