-- ==== Sys2Proof/Machine/Alu.lean ====
section
/-! DEFINITION. Arithmetic, logic and comparison (spec `41_alu.md` R130 to R141): the operands are B and L, the
result always goes to B, L is never written (R130). -/

namespace Sys2Proof.Machine

/-- ADD (R131): `B <- wrap16(B + s16(L))`, FLAG on overflow. -/
def execAdd (s : State) : Host.Outcome State Fault Refusal := .next (s.writeChecked (s.b.toInt + s.l.toInt))

/-- SUB (R132): `B <- wrap16(B - s16(L))`, FLAG on overflow. -/
def execSub (s : State) : Host.Outcome State Fault Refusal := .next (s.writeChecked (s.b.toInt - s.l.toInt))

/-- MUL (R133): `B <- wrap16(B * s16(L))`, FLAG on overflow. -/
def execMul (s : State) : Host.Outcome State Fault Refusal := .next (s.writeChecked (s.b.toInt * s.l.toInt))

/-- The quotient of DIV (R134): 0 for a zero divisor, -32768 for -32768 / -1, else truncated toward zero. -/
def divQuotient (b l : Int) : Int := if l = 0 then 0 else if b = -32768 ∧ l = -1 then -32768 else b.tdiv l

/-- The remainder of MOD (R135): 0 for a zero divisor and for -32768 / -1, else `B - l * trunc(B / l)`. -/
def modRemainder (b l : Int) : Int := if l = 0 then 0 else if b = -32768 ∧ l = -1 then 0 else b - l * b.tdiv l

/-- DIV (R134): FLAG is unaffected in every case. -/
def execDiv (s : State) : Host.Outcome State Fault Refusal :=
  .next (s.setB (wrap16 (divQuotient s.b.toInt s.l.toInt)))

/-- MOD (R135): FLAG is unaffected in every case. -/
def execMod (s : State) : Host.Outcome State Fault Refusal :=
  .next (s.setB (wrap16 (modRemainder s.b.toInt s.l.toInt)))

/-- NOT (R136): acts on B alone. -/
def execNot (s : State) : Host.Outcome State Fault Refusal := .next (s.setB (~~~s.b))

/-- AND (R137): bit by bit over 16 bits. -/
def execAnd (s : State) : Host.Outcome State Fault Refusal := .next (s.setB (s.b &&& s.l))

/-- OR (R138). -/
def execOr (s : State) : Host.Outcome State Fault Refusal := .next (s.setB (s.b ||| s.l))

/-- XOR (R139). -/
def execXor (s : State) : Host.Outcome State Fault Refusal := .next (s.setB (s.b ^^^ s.l))

/-- CMP (R140): `B <- B - clamp(L)`, clamped to the maximum; FLAG on either clamp. -/
def execCmp (s : State) : Host.Outcome State Fault Refusal :=
  let z := s.b.toInt - cmpOperand s.l
  .next ((s.setB (wrap16 (cmpResult z))).raiseFlagIf (cmpOperandClamped s.l || cmpResultClamped z))

end Sys2Proof.Machine
end

