-- ==== Sys2Proof/Machine/ArrayReg.lean ====
section
/-! DEFINITION. The array register (spec `45_array.md` R215 to R223). A slot is an `i8` as its pattern, so `s8` and `u8`
between bytes and slots change nothing. -/

namespace Sys2Proof.Machine

/-- RCLR (R216). -/
def execRclr (s : State) : Host.Outcome State Fault Refusal := .next (s.setR (List.replicate slotCount 0))

/-- RLDI (R217): `R[i] <- s8(v[i])`. A well-formed operand has 37 bytes (`Instr.wf`); the decoder makes no other.
Assumption 12. -/
def execRldi (v : List Byte) (s : State) : Host.Outcome State Fault Refusal := .next (s.setR v)

/-- RLDM (R218): the 37 addresses wrap. -/
def execRldm (addr : Word) (s : State) : Host.Outcome State Fault Refusal :=
  .next (s.setR (memBytes s.mem addr slotCount))

/-- RSTM (R219): the 37 addresses wrap. -/
def execRstm (addr : Word) (s : State) : Host.Outcome State Fault Refusal :=
  .next (s.setMem (memWriteBytes s.mem addr s.r))

/-- RGET (R220). -/
def execRget (idx : Byte) (s : State) : Host.Outcome State Fault Refusal :=
  .next (if idx.toNat < slotCount then s.setA (s.slot idx.toNat) else s.raiseFlag)

/-- RSET (R221). -/
def execRset (idx : Byte) (s : State) : Host.Outcome State Fault Refusal := .next (s.setSlot idx s.a)

/-- RSETI (R222). -/
def execRseti (idx imm : Byte) (s : State) : Host.Outcome State Fault Refusal := .next (s.setSlot idx imm)

/-- RCPM (R223): the sum `idx + cnt` is exact, not reduced modulo 256. -/
def execRcpm (idx cnt : Byte) (addr : Word) (s : State) : Host.Outcome State Fault Refusal :=
  .next (if slotCount < idx.toNat + cnt.toNat then s.raiseFlag
    else s.setMem (memWriteBytes s.mem addr ((s.r.drop idx.toNat).take cnt.toNat)))

end Sys2Proof.Machine
end

