-- ==== Sys2Proof/Machine/Control.lean ====
section
/-! DEFINITION. The control instructions (spec `40_engine_control.md` R115 to R124). In every meaning EP has already
been advanced past the instruction (R111). -/

namespace Sys2Proof.Machine

/-- NOP (R115): nothing; EP was advanced. -/
def execNop (s : State) : Host.Outcome State Fault Refusal := .next s

/-- DOOM (R116): `DOOM <- 1`. -/
def execDoom (s : State) : Host.Outcome State Fault Refusal := .next (s.setDoom true)

/-- CONCL (R118): halts if DOOM is already raised, else nothing; FLAG is unaffected in both cases. -/
def execConcl (s : State) : Host.Outcome State Fault Refusal := .next (if s.doom then s.setHalted true else s)

/-- CLF (R119): `FLAG <- 0`. -/
def execClf (s : State) : Host.Outcome State Fault Refusal := .next (s.setFlag false)

/-- TGF (R120): `FLAG <- 1 - FLAG`. -/
def execTgf (s : State) : Host.Outcome State Fault Refusal := .next (s.setFlag (!s.flag))

/-- SETDP (R123): `DP <- addr` if allow-listed, else `FLAG <- 1` and DP keeps its value. -/
def execSetdp (addr : Word) (s : State) : Host.Outcome State Fault Refusal :=
  .next (if allowed addr then s.setDp addr else s.raiseFlag)

end Sys2Proof.Machine
end

