-- ==== Sys2Proof/Machine/Debug.lean ====
section
/-! DEFINITION. The gated debug instructions (spec `49_debug.md` R275 to R280). -/

namespace Sys2Proof.Machine

/-- TGDBG (R275). -/
def execTgdbg (s : State) : Host.Outcome State Fault Refusal := .next (s.gated fun t => t.setDbg (!t.dbg))

/-- DBGST (R276). -/
def execDbgst (s : State) : Host.Outcome State Fault Refusal :=
  .next (s.gated fun t => t.emit (.dumpFull t.pfx t.fullSnapshot))

/-- DBGSTC (R277). -/
def execDbgstc (s : State) : Host.Outcome State Fault Refusal :=
  .next (s.gated fun t => t.emit (.dumpCompact t.pfx t.compactSnapshot))

/-- DBGMEM (R278): half-open, `(end - start) mod 65536` bytes, wrapping. -/
def execDbgmem (start stop : Word) (s : State) : Host.Outcome State Fault Refusal :=
  .next (s.gated fun t => t.emit (.dumpMem t.pfx start (memBytes t.mem start (stop - start).toNat)))

/-- DBGSTK (R279): half-open, from the bottom, clipped to the bytes the stack holds. -/
def execDbgstk (start stop : Word) (s : State) : Host.Outcome State Fault Refusal :=
  .next (s.gated fun t =>
    t.emit (.dumpStk t.pfx start stop
      ((t.stk.take (min stop.toNat t.stk.length)).drop (min start.toNat t.stk.length))))

end Sys2Proof.Machine
end

