-- ==== Sys2Proof/Machine/FlagsStruct.lean ====
section
/-! DEFINITION. The flags struct CHOICE, CNT, DOOM, LATCH (spec `47_flags.md` R245 to R252); DOOM and CONCL are in
Machine/Control.lean. -/

namespace Sys2Proof.Machine

/-- CHSET (R245); a byte of 5 to 255 fails the decode. -/
def execChset (c : Choice) (s : State) : Host.Outcome State Fault Refusal := .next (s.setChoice c)

/-- CHGETA (R246). -/
def execChgeta (s : State) : Host.Outcome State Fault Refusal := .next (s.setA (choiceToByte s.choice))

/-- CNTINC (R247): saturates, FLAG unaffected. -/
def execCntinc (s : State) : Host.Outcome State Fault Refusal :=
  .next (if s.cnt.toNat < 0xFFFFFFFFFFFFFFFF then s.setCnt (s.cnt + 1) else s)

/-- CNTDEC (R248): saturates, FLAG unaffected. -/
def execCntdec (s : State) : Host.Outcome State Fault Refusal :=
  .next (if 0 < s.cnt.toNat then s.setCnt (s.cnt - 1) else s)

/-- PUSHCNT (R249). -/
def execPushcnt (s : State) : Host.Outcome State Fault Refusal := .next (s.pushVal 8 s.cnt.toNat)

/-- LATSET (R251). -/
def execLatset (s : State) : Host.Outcome State Fault Refusal := .next (s.setLatch true)

/-- LATCLR (R252): refused when LATCH is 1; never changes LATCH. -/
def execLatclr (s : State) : Host.Outcome State Fault Refusal := .next (if s.latch then s.raiseFlag else s)

end Sys2Proof.Machine
end

