-- ==== Sys2Proof/Machine/Io.lean ====
section
/-! DEFINITION. The gated input and output instructions (spec `48_io.md` R260 to R267). -/

namespace Sys2Proof.Machine

/-- GETCH (R263): `CH <-` the host's answer to `ReqChar`; held while the host has not answered. -/
def execGetch (s : State) : Host.Outcome State Fault Refusal :=
  .next (s.gated fun t => t.takeKey Instr.getch.length (fun u c => u.setCh c))

/-- GETLN (R264): the line replaces S; a line that does not fit sets FLAG and is lost. -/
def execGetln (s : State) : Host.Outcome State Fault Refusal :=
  .next (s.gated fun t => t.takeLine (fun u ln =>
    if u.cfg.strCap.val < ln.length then u.raiseFlag else u.setStr ln))

/-- WRCH (R265). -/
def execWrch (s : State) : Host.Outcome State Fault Refusal := .next (s.gated fun t => t.emit (.outChar t.pfx t.ch))

/-- WRLNS (R266). -/
def execWrlns (s : State) : Host.Outcome State Fault Refusal := .next (s.gated fun t => t.emit (.outLine t.pfx t.str))

/-- WRLNM (R267): up to the first zero byte, or all 65536 bytes when there is none. -/
def execWrlnm (addr : Word) (s : State) : Host.Outcome State Fault Refusal :=
  .next (s.gated fun t =>
    t.emit (.outLine t.pfx (memBytes t.mem addr ((firstZero t.mem addr 65536).getD 65536))))

end Sys2Proof.Machine
end

