-- ==== Sys2Proof/Machine/Jumps.lean ====
section
/-! DEFINITION. Control transfer (spec `44_jumps.md` R200 to R208): "pop to execution pointer if <cond>". -/

namespace Sys2Proof.Machine

/-- PEP (R201). -/
def execPep (s : State) : Host.Outcome State Fault Refusal := .next (s.popEpIf true)

/-- PEPZ (R202). -/
def execPepz (s : State) : Host.Outcome State Fault Refusal := .next (s.popEpIf (decide (s.b.toInt = 0)))

/-- PEPP (R203): B read as signed. -/
def execPepp (s : State) : Host.Outcome State Fault Refusal := .next (s.popEpIf (decide (0 < s.b.toInt)))

/-- PEPN (R204): B read as signed. -/
def execPepn (s : State) : Host.Outcome State Fault Refusal := .next (s.popEpIf (decide (s.b.toInt < 0)))

/-- PEPF (R205): the jump does not clear FLAG. -/
def execPepf (s : State) : Host.Outcome State Fault Refusal := .next (s.popEpIf s.flag)

/-- PEPAZ (R206). -/
def execPepaz (s : State) : Host.Outcome State Fault Refusal := .next (s.popEpIf (s.a == 0))

/-- PEPD (R207): not gated by the dot pointer. -/
def execPepd (s : State) : Host.Outcome State Fault Refusal := .next (s.popEpIf s.dbg)

end Sys2Proof.Machine
end

