-- ==== Sys2Proof/Machine/RegMove.lean ====
section
/-! DEFINITION. Register loads and stores (spec `42_regmove.md` R150 to R159): one addressing mode, absolute. None can
fail, none sets FLAG, none is gated. -/

namespace Sys2Proof.Machine

/-- LDAI (R150): `A <- imm`. -/
def execLdai (imm : Byte) (s : State) : Host.Outcome State Fault Refusal := .next (s.setA imm)

/-- LDAM (R151): `A <- MEM[addr]`. -/
def execLdam (addr : Word) (s : State) : Host.Outcome State Fault Refusal := .next (s.setA (s.mem.read addr))

/-- STAM (R152): `MEM[addr] <- A`. -/
def execStam (addr : Word) (s : State) : Host.Outcome State Fault Refusal := .next (s.setMem (s.mem.write addr s.a))

/-- LDBI (R153): `B <- s16(imm)`. -/
def execLdbi (imm : Word) (s : State) : Host.Outcome State Fault Refusal := .next (s.setB imm)

/-- LDBM (R154): `B <- s16(MemRead(addr, 2))`. -/
def execLdbm (addr : Word) (s : State) : Host.Outcome State Fault Refusal :=
  .next (s.setB (BitVec.ofNat 16 (memRead s.mem addr 2)))

/-- STBM (R155): `MemWrite(addr, 2, u16(B))`. -/
def execStbm (addr : Word) (s : State) : Host.Outcome State Fault Refusal :=
  .next (s.setMem (memWrite s.mem addr 2 s.b.toNat))

/-- LDLI (R156): `L <- imm`. -/
def execLdli (imm : Word) (s : State) : Host.Outcome State Fault Refusal := .next (s.setL imm)

/-- LDLM (R157): `L <- MemRead(addr, 2)`. -/
def execLdlm (addr : Word) (s : State) : Host.Outcome State Fault Refusal :=
  .next (s.setL (BitVec.ofNat 16 (memRead s.mem addr 2)))

/-- STLM (R158): `MemWrite(addr, 2, L)`. -/
def execStlm (addr : Word) (s : State) : Host.Outcome State Fault Refusal :=
  .next (s.setMem (memWrite s.mem addr 2 s.l.toNat))

/-- LDNUMI (R159): `NUM <- s32(imm)`. -/
def execLdnumi (imm : Word32) (s : State) : Host.Outcome State Fault Refusal := .next (s.setNum imm)

end Sys2Proof.Machine
end

