-- ==== Sys2Proof/Machine/Stack.lean ====
section
/-! DEFINITION. The stack instructions (spec `43_stack.md` R176 to R194) over the stack operations of Machine/Ops.lean. -/

namespace Sys2Proof.Machine

/-- SALLOC (R176). -/
def execSalloc (n : Word) (s : State) : Host.Outcome State Fault Refusal :=
  .next (s.stkOrFlag (stkAlloc s.cfg.stackCap.val s.stk n.toNat))

/-- SDEALLOC (R177). -/
def execSdealloc (n : Word) (s : State) : Host.Outcome State Fault Refusal :=
  .next (s.stkOrFlag (stkDealloc s.stk n.toNat))

/-- PUSHI (R178). -/
def execPushi (imm : Byte) (s : State) : Host.Outcome State Fault Refusal := .next (s.pushVal 1 imm.toNat)

/-- PUSHW (R179). -/
def execPushw (imm : Word) (s : State) : Host.Outcome State Fault Refusal := .next (s.pushVal 2 imm.toNat)

/-- PUSHM (R180). -/
def execPushm (addr : Word) (s : State) : Host.Outcome State Fault Refusal :=
  .next (s.pushVal 1 (s.mem.read addr).toNat)

/-- POPM (R181): `MEM[addr]` keeps its value on underflow. -/
def execPopm (addr : Word) (s : State) : Host.Outcome State Fault Refusal :=
  .next (s.popVal 1 (fun t v => t.setMem (t.mem.write addr (BitVec.ofNat 8 v))))

/-- PUSHA (R182). -/
def execPusha (s : State) : Host.Outcome State Fault Refusal := .next (s.pushVal 1 s.a.toNat)

/-- POPA (R183). -/
def execPopa (s : State) : Host.Outcome State Fault Refusal :=
  .next (s.popVal 1 (fun t v => t.setA (BitVec.ofNat 8 v)))

/-- PUSHB (R184). -/
def execPushb (s : State) : Host.Outcome State Fault Refusal := .next (s.pushVal 2 s.b.toNat)

/-- POPB (R185). -/
def execPopb (s : State) : Host.Outcome State Fault Refusal :=
  .next (s.popVal 2 (fun t v => t.setB (BitVec.ofNat 16 v)))

/-- PUSHL (R186). -/
def execPushl (s : State) : Host.Outcome State Fault Refusal := .next (s.pushVal 2 s.l.toNat)

/-- POPL (R187). -/
def execPopl (s : State) : Host.Outcome State Fault Refusal :=
  .next (s.popVal 2 (fun t v => t.setL (BitVec.ofNat 16 v)))

/-- PUSHF (R188): F as its 64-bit pattern. -/
def execPushf (s : State) : Host.Outcome State Fault Refusal := .next (s.pushVal 8 s.f.toNat)

/-- POPF (R189): every 64-bit pattern is accepted and kept bit for bit. -/
def execPopf (s : State) : Host.Outcome State Fault Refusal :=
  .next (s.popVal 8 (fun t v => t.setF (BitVec.ofNat 64 v)))

/-- PUSHCH (R190). -/
def execPushch (s : State) : Host.Outcome State Fault Refusal := .next (s.pushVal 4 s.ch.toNat)

/-- POPCH (R191): the pop is refused whole when the value is no scalar: nothing is popped. -/
def execPopch (s : State) : Host.Outcome State Fault Refusal :=
  .next (s.popVal 4 (fun t v =>
    if isScalar (BitVec.ofNat 32 v) then t.setCh (BitVec.ofNat 32 v) else s.raiseFlag))

/-- PUSHNUM (R192). -/
def execPushnum (s : State) : Host.Outcome State Fault Refusal := .next (s.pushVal 4 s.num.toNat)

/-- POPNUM (R193). -/
def execPopnum (s : State) : Host.Outcome State Fault Refusal :=
  .next (s.popVal 4 (fun t v => t.setNum (BitVec.ofNat 32 v)))

/-- PUSHS (R194): `S[0]` deepest; S is not changed. -/
def execPushs (s : State) : Host.Outcome State Fault Refusal := .next (s.pushBytes s.str)

end Sys2Proof.Machine
end

