-- ==== Sys2Proof/Machine/StringReg.lean ====
section
/-! DEFINITION. The bounded string register (spec `46_string.md` R230 to R238). No instruction checks that the content is
text. -/

namespace Sys2Proof.Machine

/-- SCLR (R231). -/
def execSclr (s : State) : Host.Outcome State Fault Refusal := .next (s.setStr [])

/-- SLDM (R232): the zero-terminated bytes at `addr` replace S; refused whole when they exceed STR_CAP. -/
def execSldm (addr : Word) (s : State) : Host.Outcome State Fault Refusal :=
  .next (s.strOrFlag ((firstZero s.mem addr (s.cfg.strCap.val + 1)).map (memBytes s.mem addr)))

/-- SSTM (R233): S, then one zero byte. -/
def execSstm (addr : Word) (s : State) : Host.Outcome State Fault Refusal :=
  .next (s.setMem (memWriteBytes s.mem addr (s.str ++ [0])))

/-- SAPP (R234). -/
def execSapp (s : State) : Host.Outcome State Fault Refusal :=
  .next (s.strOrFlag (strAppend s.cfg.strCap.val s.str [s.a]))

/-- SAPPM (R235): a zero byte does not stop the copy. -/
def execSappm (addr : Word) (n : Byte) (s : State) : Host.Outcome State Fault Refusal :=
  .next (s.strOrFlag (strAppend s.cfg.strCap.val s.str (memBytes s.mem addr n.toNat)))

/-- SGET (R236). -/
def execSget (idx : Byte) (s : State) : Host.Outcome State Fault Refusal :=
  .next (match s.str[idx.toNat]? with
    | none => s.raiseFlag
    | some v => s.setA v)

/-- SSET (R237): `idx = |S|` does not append. -/
def execSset (idx : Byte) (s : State) : Host.Outcome State Fault Refusal :=
  .next (if idx.toNat < s.str.length then s.setStr (s.str.set idx.toNat s.a) else s.raiseFlag)

/-- SLEN (R238): the value fits A because `STR_CAP <= 255`. -/
def execSlen (s : State) : Host.Outcome State Fault Refusal := .next (s.setA (BitVec.ofNat 8 s.str.length))

end Sys2Proof.Machine
end

