-- ==== Sys2Proof/Machine/Dispatch.lean ====
section
/-! DEFINITION. `Execute` (spec `40_engine_control.md` R121): "one exhaustive dispatch" and no default arm. -/

namespace Sys2Proof.Machine

def exec (i : Instr) (s : State) : Host.Outcome State Fault Refusal :=
  match i with
  -- 40_engine_control.md
  | .nop => Sys2Proof.Machine.execNop s
  | .doom => Sys2Proof.Machine.execDoom s
  | .concl => Sys2Proof.Machine.execConcl s
  | .clf => Sys2Proof.Machine.execClf s
  | .tgf => Sys2Proof.Machine.execTgf s
  | .setdp addr => Sys2Proof.Machine.execSetdp addr s
  -- 41_alu.md
  | .add => Sys2Proof.Machine.execAdd s
  | .sub => Sys2Proof.Machine.execSub s
  | .mul => Sys2Proof.Machine.execMul s
  | .div => Sys2Proof.Machine.execDiv s
  | .mod => Sys2Proof.Machine.execMod s
  | .not => Sys2Proof.Machine.execNot s
  | .and => Sys2Proof.Machine.execAnd s
  | .or => Sys2Proof.Machine.execOr s
  | .xor => Sys2Proof.Machine.execXor s
  | .cmp => Sys2Proof.Machine.execCmp s
  -- 42_regmove.md
  | .ldai imm => Sys2Proof.Machine.execLdai imm s
  | .ldam addr => Sys2Proof.Machine.execLdam addr s
  | .stam addr => Sys2Proof.Machine.execStam addr s
  | .ldbi imm => Sys2Proof.Machine.execLdbi imm s
  | .ldbm addr => Sys2Proof.Machine.execLdbm addr s
  | .stbm addr => Sys2Proof.Machine.execStbm addr s
  | .ldli imm => Sys2Proof.Machine.execLdli imm s
  | .ldlm addr => Sys2Proof.Machine.execLdlm addr s
  | .stlm addr => Sys2Proof.Machine.execStlm addr s
  | .ldnumi imm => Sys2Proof.Machine.execLdnumi imm s
  -- 43_stack.md
  | .salloc n => Sys2Proof.Machine.execSalloc n s
  | .sdealloc n => Sys2Proof.Machine.execSdealloc n s
  | .pushi imm => Sys2Proof.Machine.execPushi imm s
  | .pushw imm => Sys2Proof.Machine.execPushw imm s
  | .pushm addr => Sys2Proof.Machine.execPushm addr s
  | .popm addr => Sys2Proof.Machine.execPopm addr s
  | .pusha => Sys2Proof.Machine.execPusha s
  | .popa => Sys2Proof.Machine.execPopa s
  | .pushb => Sys2Proof.Machine.execPushb s
  | .popb => Sys2Proof.Machine.execPopb s
  | .pushl => Sys2Proof.Machine.execPushl s
  | .popl => Sys2Proof.Machine.execPopl s
  | .pushf => Sys2Proof.Machine.execPushf s
  | .popf => Sys2Proof.Machine.execPopf s
  | .pushch => Sys2Proof.Machine.execPushch s
  | .popch => Sys2Proof.Machine.execPopch s
  | .pushnum => Sys2Proof.Machine.execPushnum s
  | .popnum => Sys2Proof.Machine.execPopnum s
  | .pushs => Sys2Proof.Machine.execPushs s
  -- 44_jumps.md
  | .pep => Sys2Proof.Machine.execPep s
  | .pepz => Sys2Proof.Machine.execPepz s
  | .pepp => Sys2Proof.Machine.execPepp s
  | .pepn => Sys2Proof.Machine.execPepn s
  | .pepf => Sys2Proof.Machine.execPepf s
  | .pepaz => Sys2Proof.Machine.execPepaz s
  | .pepd => Sys2Proof.Machine.execPepd s
  -- 45_array.md
  | .rclr => Sys2Proof.Machine.execRclr s
  | .rldi v => Sys2Proof.Machine.execRldi v s
  | .rldm addr => Sys2Proof.Machine.execRldm addr s
  | .rstm addr => Sys2Proof.Machine.execRstm addr s
  | .rget idx => Sys2Proof.Machine.execRget idx s
  | .rset idx => Sys2Proof.Machine.execRset idx s
  | .rseti idx imm => Sys2Proof.Machine.execRseti idx imm s
  | .rcpm idx cnt addr => Sys2Proof.Machine.execRcpm idx cnt addr s
  -- 46_string.md
  | .sclr => Sys2Proof.Machine.execSclr s
  | .sldm addr => Sys2Proof.Machine.execSldm addr s
  | .sstm addr => Sys2Proof.Machine.execSstm addr s
  | .sapp => Sys2Proof.Machine.execSapp s
  | .sappm addr n => Sys2Proof.Machine.execSappm addr n s
  | .sget idx => Sys2Proof.Machine.execSget idx s
  | .sset idx => Sys2Proof.Machine.execSset idx s
  | .slen => Sys2Proof.Machine.execSlen s
  -- 47_flags.md
  | .chset c => Sys2Proof.Machine.execChset c s
  | .chgeta => Sys2Proof.Machine.execChgeta s
  | .cntinc => Sys2Proof.Machine.execCntinc s
  | .cntdec => Sys2Proof.Machine.execCntdec s
  | .pushcnt => Sys2Proof.Machine.execPushcnt s
  | .latset => Sys2Proof.Machine.execLatset s
  | .latclr => Sys2Proof.Machine.execLatclr s
  -- 48_io.md
  | .getch => Sys2Proof.Machine.execGetch s
  | .getln => Sys2Proof.Machine.execGetln s
  | .wrch => Sys2Proof.Machine.execWrch s
  | .wrlns => Sys2Proof.Machine.execWrlns s
  | .wrlnm addr => Sys2Proof.Machine.execWrlnm addr s
  -- 49_debug.md
  | .tgdbg => Sys2Proof.Machine.execTgdbg s
  | .dbgst => Sys2Proof.Machine.execDbgst s
  | .dbgstc => Sys2Proof.Machine.execDbgstc s
  | .dbgmem start stop => Sys2Proof.Machine.execDbgmem start stop s
  | .dbgstk start stop => Sys2Proof.Machine.execDbgstk start stop s

end Sys2Proof.Machine
end

