-- ==== Sys2Proof/Machine/Step.lean ====
section
/-! DEFINITION. One step of the machine (spec `40_engine_control.md` R110), and how an instruction is placed where the
next step fetches it. -/

namespace Sys2Proof.Machine

/-- `Step` (R110). The checks are in the order of `60_exceptions.md` R294: the terminal test, the opcode byte, the choice
byte, execution. The terminal states have no step (R113); a failed decode takes the fatal fault (R292); a decode that
succeeds advances EP past the instruction, and the instruction executes (R111). -/
def step (s : State) : Host.Outcome State Fault Refusal :=
  if s.halted then .fault (.halted s.a)
  else match s.fault with
    | some rec => .fault (.faulted rec)
    | none => match decodeAt s.mem s.ep with
      | .ok (i, len) => exec i (s.advance len)
      | .error (.invalidOpcode op) => .next (s.takeFault .invalidOpcode op)
      | .error (.invalidChoice b) => .next (s.takeFault .invalidChoice b)
      | .error .truncated => .refused .fetchTooShort

/-- `s` with the table word's bytes, and zeros up to the longest instruction, stored at `EP`: what the host does on the
loader port before the run (`10_state.md` R51). Assumption 7. -/
def State.withFetchWord (s : State) (nbits w : Nat) : State :=
  s.setMem (memWriteBytes s.mem s.ep (tableBytes nbits w))

end Sys2Proof.Machine
end

