-- ==== Sys2Proof/Machine/Loader.lean ====
section
/-! DEFINITION. The host's side of a run: the loader, the start of the run, the status port (spec
`70_reset_and_hazards.md` R320 to R324, `10_state.md` R51, R52, R55). -/

namespace Sys2Proof.Machine

/-- One item of the loader's sequence (R320). -/
inductive LoadItem where
  | instr (i : Instr)
  | byte (b : Byte)
  | block (bs : List Byte)
  deriving DecidableEq, Repr

/-- Write one item at the cursor and move the cursor past it, wrapping (R321). -/
def loadItem (m : Memory) (cur : Word) : LoadItem → Memory × Word
  | .instr i => encodeAt m i cur
  | .byte b => (m.write cur b, cur + 1)
  | .block bs => (memWriteBytes m cur bs, cur + BitVec.ofNat 16 bs.length)

/-- `Load(items, off)` (R320, R321): the memory after every item in order, and the final offset. A later item may
overwrite an earlier one; "the last write wins" (R322). -/
def loadItems (m : Memory) (off : Word) : List LoadItem → Memory × Word
  | [] => (m, off)
  | x :: rest => loadItems (loadItem m off x).1 (loadItem m off x).2 rest

/-- The state at the start of a run (R324): "the reset state ... with MEM equal to the image". -/
def State.boot (p : Params) (image : Memory) : State := (State.create p).setMem image

/-- What the state machine reads on the status port (R52). -/
inductive RunStatus where
  | running
  | halted
  | fault (record : FaultRecord)
  deriving DecidableEq, Repr

/-- The status outputs (R52): a function of `HALTED` and `FAULT`. The two exclude one another (R113). -/
def State.status (s : State) : RunStatus :=
  match s.fault with
  | some rec => .fault rec
  | none => if s.halted then .halted else .running

/-- The exit status (R55): `A` when halted; none otherwise, in Fault too. -/
def State.exitStatus (s : State) : Option Byte :=
  match s.status with
  | .halted => some s.a
  | .running | .fault _ => none

end Sys2Proof.Machine
end

