-- ==== Sys2Proof/Machine/Run.lean ====
section
/-! DEFINITION. The run loop (spec `40_engine_control.md` R112) and the result of a run (R113). -/

namespace Sys2Proof.Machine

/-- The result of a run that has ended (R113): A or the triple, and the final state, whose `trace` is the output. -/
inductive RunResult where
  /-- The run ended in Halted; `status` is the exit status. -/
  | exit (status : Byte) (final : State)
  /-- The run ended in Fault: "abort the whole process" (R110); `record` is the triple. -/
  | abort (record : FaultRecord) (final : State)
  deriving DecidableEq, Repr

/-- The result a state gives as the last one of a run (R113), by what its status port reads (`10_state.md` R52); a Running
state ends no run. -/
def State.result (s : State) : Option RunResult :=
  match s.status with
  | .running => none
  | .halted => some (.exit s.a s)
  | .fault rec => some (.abort rec s)

/-- `run()` (R112) from a state on: "repeat Step until there is no step". Total by a bound on the number of steps; none
where the run has not ended within it. The terminal test is the first thing `step` does, before the fetch. -/
def runFrom : Nat → State → Option RunResult
  | 0, s => s.result
  | k + 1, s =>
    match step s with
    | .next t => runFrom k t
    | .fault _ => s.result
    | .refused _ => s.result

/-- The state a run starts in (R112, `70_reset_and_hazards.md` R324): "the reset state with the image loaded", with the
answers the host will give to its requests (`10_state.md` R54: "an oracle or an input stream"). Assumptions 4, 5. -/
def runStart (p : Params) (image : Memory) (keys : List Word32) (lines : List (List Byte)) : State :=
  ((State.boot p image).setKeys keys).setLines lines

/-- `run()` (R112) of an instance with these parameters, image and answers, within `bound` steps. -/
def run (p : Params) (image : Memory) (keys : List Word32) (lines : List (List Byte)) (bound : Nat) :
    Option RunResult := runFrom bound (runStart p image keys lines)

/-- The run from `s` ends with result `r` (R113), after however many steps. -/
def State.RunEnds (s : State) (r : RunResult) : Prop := ∃ bound, runFrom bound s = some r

/-- "A run need not end" (R113): no number of steps ends the run from `s`. -/
def State.RunsForEver (s : State) : Prop := ∀ bound, runFrom bound s = none

end Sys2Proof.Machine
end

