-- ==== Sys2Proof/Safety.lean ====
section
/-! DEFINITION. The terms the claims are stated in: which states run, hold or are terminal, and the invariant of every
reachable state. -/

namespace Sys2Proof.Machine

/-- Running (spec `10_state.md` R52): `HALTED = 0` and `FAULT = none`. -/
def State.Running (s : State) : Prop := s.halted = false ∧ s.fault = none

/-- Terminal (`40_engine_control.md` R113): Halted or Fault; there is no step. -/
def State.Terminal (s : State) : Prop := s.halted = true ∨ s.fault ≠ none

/-- The hold (`48_io.md` R263, `60_exceptions.md` R300): the machine is Running at a GETCH with the gate open, and the
host has not answered. -/
def State.Holding (s : State) : Prop :=
  s.Running ∧ decodeAt s.mem s.ep = .ok (.getch, 1) ∧ s.gate = true ∧ s.keys = []

/-- What `FAULT` records is what stands in memory at its address (`60_exceptions.md` R290): cause 1, the byte there is
0x55 to 0xFF; cause 2, the byte there is 0x44 and the next one is 5 to 255. -/
def FaultRecord.Backed (m : Memory) (rec : FaultRecord) : Prop :=
  match rec.cause with
  | .invalidOpcode => rec.byte = m.read rec.addr ∧ 0x54 < rec.byte.toNat
  | .invalidChoice => m.read rec.addr = 0x44 ∧ rec.byte = m.read (rec.addr + 1) ∧ 4 < rec.byte.toNat

/-- The legal states: what the spec says holds "at all times", and the host's duty on its answers (R54). -/
structure State.Inv (s : State) : Prop where
  /-- The memory is in canonical form. -/
  memWf : s.mem.wf
  /-- R29: "The length never changes." -/
  slots : s.r.length = 37
  /-- R30: `|S| <= STR_CAP`. -/
  strFits : s.str.length ≤ s.cfg.strCap.val
  /-- R31: `|STK| <= STACK_CAP`. -/
  stkFits : s.stk.length ≤ s.cfg.stackCap.val
  /-- R27: `CH` always satisfies `isScalar`. -/
  chScalar : isScalar s.ch = true
  /-- R25: `DP` is its reset value or an allow-listed address. -/
  dpLegal : s.dp = 0 ∨ allowed s.dp = true
  /-- R114: the only way to Halted is CONCL with DOOM = 1, and no instruction clears DOOM (R39). -/
  haltedDoomed : s.halted = true → s.doom = true
  /-- R113: Halted and Fault cannot both hold. -/
  exclusive : s.halted = true → s.fault = none
  /-- R292: a fault leaves `EP` at the failing instruction, and nothing changes after it. -/
  faultAtEp : ∀ rec, s.fault = some rec → rec.addr = s.ep ∧ rec.Backed s.mem
  /-- R54: the host answers with scalar values. -/
  keysScalar : ∀ c ∈ s.keys, isScalar c = true

end Sys2Proof.Machine
end

