-- ==== Sys2Proof/Certificates/Slice0/Obligations.lean ====
section
/-! DEFINITION. The statements for the provers. Each formalises numbered rules of spec/ or, where its docstring says so,
a choice of this model. `Sys2Proof.Claims` holds the words they are stated in. -/

namespace Sys2Proof.Claims

open Sys2Proof.Machine

/-! ### Words the statements use -/

/-- The instruction answers exactly the next state `t`. -/
abbrev Runs (i : Instr) (s t : State) : Prop := exec i s = .next t

/-- The encoding line of an instruction's rule: these are its bytes (R81), and they decode to it whatever follows. -/
def Encodes (i : Instr) (bs : List Byte) : Prop :=
  encode i = bs ∧ i.length = bs.length ∧ ∀ rest, decode (bs ++ rest) = .ok i

/-- `v[15:8]` (R6). -/
def hi8 (v : Word) : Byte := v.extractLsb' 8 8

/-- `v[7:0]` (R6). -/
def lo8 (v : Word) : Byte := v.extractLsb' 0 8

/-- `sN(u)` (R7): the signed reading of an N-bit number. -/
def sN (n u : Nat) : Int := if u < 2 ^ (n - 1) then u else (u : Int) - 2 ^ n

/-- `MemBytes(a, n)` (R62), each byte at its wrapped address. -/
def bytesAt (m : Memory) (a : Word) (n : Nat) : List Byte :=
  (List.range n).map fun k => m.read (a + BitVec.ofNat 16 k)

/-- `MemRead(a, n)` (R62), by its sum. -/
def readValue (m : Memory) (a : Word) (n : Nat) : Nat :=
  ∑ i ∈ Finset.range n, (m.read (a + BitVec.ofNat 16 i)).toNat * 256 ^ (n - 1 - i)

/-- The bytes of a value, `v[7:0]` first (R171). -/
def lsbFirst (n v : Nat) : List Byte := (List.range n).map fun k => BitVec.ofNat 8 (v / 256 ^ k)

/-- The value of the top `n` bytes of a stack, by the sum of R172. -/
def topValue (stk : List Byte) (n : Nat) : Nat :=
  ∑ i ∈ Finset.range n, (stk.getD (stk.length - 1 - i) 0).toNat * 256 ^ (n - 1 - i)

/-- The bytes of one item of the loader's sequence (R320, R321). -/
def itemBytes : LoadItem → List Byte
  | .instr i => encode i
  | .byte b => [b]
  | .block bs => bs

/-- A store of `bs` from `addr` on and nothing else (R63): every byte of memory is given, every other element of the
state is unchanged, and the memory stays canonical. -/
def Stores (i : Instr) (s : State) (addr : Word) (bs : List Byte) : Prop :=
  ∃ m : Memory, (∀ x, m.read x = (bs[(x - addr).toNat]?).getD (s.mem.read x)) ∧ (s.mem.wf → m.wf) ∧
    Runs i s { s with mem := m }

/-- A push of the `n`-byte value `v` (R171, R175): whole, or FLAG alone. -/
def Pushes (i : Instr) (s : State) (n v : Nat) : Prop :=
  Runs i s (if s.stk.length + n ≤ s.cfg.stackCap.val then { s with stk := s.stk ++ lsbFirst n v }
    else { s with flag := true })

/-- A pop of an `n`-byte value (R172, R175): FLAG alone when the stack is short, else what `use` makes of the value and
the state with the bytes removed. -/
def Pops (i : Instr) (s : State) (n : Nat) (use : State → Nat → State) : Prop :=
  Runs i s (if s.stk.length < n then { s with flag := true }
    else use { s with stk := s.stk.take (s.stk.length - n) } (topValue s.stk n))

/-- `PopEpIf(cond)` (R200). -/
def JumpsIf (i : Instr) (s : State) (cond : Prop) : Prop :=
  (¬cond → Runs i s s) ∧ (cond → Pops i s 2 fun t v => { t with ep := BitVec.ofNat 16 v })

/-- The gate of R260 is open. -/
def GateOpen (s : State) : Prop := s.mem.read s.dp = 0x2E

/-- `Pfx()` (R261). -/
def prefixOf (s : State) : Option Word32 := if s.cfg.verbose then some s.num else none

/-- A gated instruction (R262): with the gate closed FLAG is set and nothing else changes; with it open, `t`. -/
def Gated (i : Instr) (s t : State) : Prop :=
  (¬GateOpen s → Runs i s { s with flag := true }) ∧ (GateOpen s → Runs i s t)

/-- A gated instruction that emits one event and changes nothing else. -/
def Emits (i : Instr) (s : State) (e : Event) : Prop := Gated i s { s with trace := s.trace ++ [e] }

/-- A Fibonacci number (R124). -/
def IsFibonacci (n : Nat) : Prop := ∃ k, Nat.fib k = n

/-- "a product of exactly two primes, equal or not" (R124). -/
def IsSemiprime (n : Nat) : Prop := ∃ p q, p.Prime ∧ q.Prime ∧ n = p * q

/-- The ten gated instructions (R260). -/
def isGated : Instr → Bool
  | .getch | .getln | .wrch | .wrlns | .wrlnm _ | .tgdbg | .dbgst | .dbgstc | .dbgmem _ _ | .dbgstk _ _ => true
  | _ => false

/-- The event-producing instructions (R53): seven, for six kinds of event. -/
def isEmitting : Instr → Bool
  | .wrch | .wrlns | .wrlnm _ | .dbgst | .dbgstc | .dbgmem _ _ | .dbgstk _ _ => true
  | _ => false

/-- The two that read the whole state (R45: "DBGST and DBGSTC read the whole state"). -/
def isFullDump : Instr → Bool
  | .dbgst | .dbgstc => true
  | _ => false

/-- The line GETLN takes (R264): the first listed answer, or the free one. -/
def nextLine (s : State) : List Byte := s.lines.headD (Config.lineAnswer s.lineReqs)

/-- The causes of R296 by instruction, with the row of the table beside each. An instruction not listed sets FLAG for no
cause. -/
def FlagCause (s : State) : Instr → Prop
  -- row 1: a push or alloc that does not fit
  | .salloc n => s.cfg.stackCap.val < s.stk.length + n.toNat
  | .pushi _ | .pushm _ | .pusha => s.cfg.stackCap.val < s.stk.length + 1
  | .pushw _ | .pushb | .pushl => s.cfg.stackCap.val < s.stk.length + 2
  | .pushch | .pushnum => s.cfg.stackCap.val < s.stk.length + 4
  | .pushf | .pushcnt => s.cfg.stackCap.val < s.stk.length + 8
  | .pushs => s.cfg.stackCap.val < s.stk.length + s.str.length
  -- row 2: a pop or dealloc of more than is held; for POPCH also row 13: the popped value is no scalar
  | .sdealloc n => s.stk.length < n.toNat
  | .popm _ | .popa => s.stk.length < 1
  | .popb | .popl => s.stk.length < 2
  | .popnum => s.stk.length < 4
  | .popf => s.stk.length < 8
  | .popch => s.stk.length < 4 ∨
      ¬(topValue s.stk 4 ≤ 0xD7FF ∨ (0xE000 ≤ topValue s.stk 4 ∧ topValue s.stk 4 ≤ 0x10FFFF))
  -- row 3: underflow in a jump whose condition holds
  | .pep => s.stk.length < 2
  | .pepz => s.b.toInt = 0 ∧ s.stk.length < 2
  | .pepp => 0 < s.b.toInt ∧ s.stk.length < 2
  | .pepn => s.b.toInt < 0 ∧ s.stk.length < 2
  | .pepf => s.flag = true ∧ s.stk.length < 2
  | .pepaz => s.a.toNat = 0 ∧ s.stk.length < 2
  | .pepd => s.dbg = true ∧ s.stk.length < 2
  -- row 4: an append or load that does not fit; for GETLN also row 7: the gate is closed
  | .sapp => s.cfg.strCap.val < s.str.length + 1
  | .sappm _ n => s.cfg.strCap.val < s.str.length + n.toNat
  | .sldm addr => ∀ n ≤ s.cfg.strCap.val, s.mem.read (addr + BitVec.ofNat 16 n) ≠ 0
  | .getln => ¬GateOpen s ∨ s.cfg.strCap.val < (nextLine s).length
  -- row 5: a string index beyond the length
  | .sget idx | .sset idx => s.str.length ≤ idx.toNat
  -- row 6: an array index or range beyond slot 36
  | .rget idx | .rset idx | .rseti idx _ => 36 < idx.toNat
  | .rcpm idx cnt _ => 37 < idx.toNat + cnt.toNat
  -- row 7: the gate is closed
  | .getch | .wrch | .wrlns | .wrlnm _ | .tgdbg | .dbgst | .dbgstc | .dbgmem _ _ | .dbgstk _ _ => ¬GateOpen s
  -- row 8: a dot-pointer target not on the allow-list
  | .setdp addr => ¬(IsFibonacci addr.toNat ∧ (addr.toNat.Prime ∨ IsSemiprime addr.toNat))
  -- row 9: refusal to clear the latch
  | .latclr => s.latch = true
  -- row 10: signed 16-bit overflow of the exact result
  | .add => ¬(-32768 ≤ s.b.toInt + s.l.toInt ∧ s.b.toInt + s.l.toInt ≤ 32767)
  | .sub => ¬(-32768 ≤ s.b.toInt - s.l.toInt ∧ s.b.toInt - s.l.toInt ≤ 32767)
  | .mul => ¬(-32768 ≤ s.b.toInt * s.l.toInt ∧ s.b.toInt * s.l.toInt ≤ 32767)
  -- rows 11 and 12: the operand clamp and the result clamp
  | .cmp => 32767 < s.l.toNat ∨ s.b.toInt - min (s.l.toNat : Int) 32767 < -32768
  -- row 14: the toggle, when FLAG was 0
  | .tgf => s.flag = false
  | _ => False

/-! ### The table of R45: who writes and who reads an element -/

def writesA : Instr → Bool
  | .ldai _ | .ldam _ | .popa | .rget _ | .sget _ | .slen | .chgeta => true
  | _ => false

def readsA : Instr → Bool
  | .stam _ | .pusha | .rset _ | .sset _ | .sapp | .pepaz => true
  | _ => false

def isAlu : Instr → Bool
  | .add | .sub | .mul | .div | .mod | .not | .and | .or | .xor | .cmp => true
  | _ => false

def writesB : Instr → Bool
  | .ldbi _ | .ldbm _ | .popb => true
  | i => isAlu i

def readsB : Instr → Bool
  | .stbm _ | .pushb | .pepz | .pepp | .pepn => true
  | i => isAlu i

def writesL : Instr → Bool
  | .ldli _ | .ldlm _ | .popl => true
  | _ => false

def readsL : Instr → Bool
  | .add | .sub | .mul | .div | .mod | .and | .or | .xor | .cmp | .stlm _ | .pushl => true
  | _ => false

def writesF : Instr → Bool
  | .popf => true
  | _ => false

def readsF : Instr → Bool
  | .pushf => true
  | _ => false

def writesCh : Instr → Bool
  | .popch | .getch => true
  | _ => false

def readsCh : Instr → Bool
  | .pushch | .wrch => true
  | _ => false

def writesNum : Instr → Bool
  | .ldnumi _ | .popnum => true
  | _ => false

def readsNum : Instr → Bool
  | .pushnum => true
  | i => isEmitting i

def writesR : Instr → Bool
  | .rclr | .rldi _ | .rldm _ | .rset _ | .rseti _ _ => true
  | _ => false

def readsR : Instr → Bool
  | .rstm _ | .rget _ | .rcpm _ _ _ => true
  | _ => false

def writesS : Instr → Bool
  | .sclr | .sldm _ | .sapp | .sappm _ _ | .sset _ | .getln => true
  | _ => false

def readsS : Instr → Bool
  | .sstm _ | .sget _ | .sset _ | .slen | .pushs | .wrlns => true
  | _ => false

def isJump : Instr → Bool
  | .pep | .pepz | .pepp | .pepn | .pepf | .pepaz | .pepd => true
  | _ => false

def writesStk : Instr → Bool
  | .salloc _ | .sdealloc _ | .pushi _ | .pushw _ | .pushm _ | .popm _ | .pusha | .popa | .pushb | .popb | .pushl
  | .popl | .pushf | .popf | .pushch | .popch | .pushnum | .popnum | .pushs | .pushcnt => true
  | i => isJump i

def readsStk : Instr → Bool
  | .dbgstk _ _ => true
  | i => writesStk i

def writesMem : Instr → Bool
  | .stam _ | .stbm _ | .stlm _ | .popm _ | .rstm _ | .rcpm _ _ _ | .sstm _ => true
  | _ => false

def readsMem : Instr → Bool
  | .ldam _ | .ldbm _ | .ldlm _ | .pushm _ | .rldm _ | .sldm _ | .sappm _ _ => true
  | i => isGated i

def writesDp : Instr → Bool
  | .setdp _ => true
  | _ => false

/-- The instructions of R296 and the two that clear or toggle FLAG. -/
def writesFlag : Instr → Bool
  | .add | .sub | .mul | .cmp | .setdp _ | .clf | .tgf | .latclr | .sapp | .sappm _ _ | .sldm _ | .sget _ | .sset _
  | .rget _ | .rset _ | .rseti _ _ | .rcpm _ _ _ => true
  | i => writesStk i || isGated i

def readsFlag : Instr → Bool
  | .tgf | .pepf => true
  | _ => false

def writesDbg : Instr → Bool
  | .tgdbg => true
  | _ => false

def readsDbg : Instr → Bool
  | .tgdbg | .pepd => true
  | _ => false

def writesHalted : Instr → Bool
  | .concl => true
  | _ => false

def writesChoice : Instr → Bool
  | .chset _ => true
  | _ => false

def readsChoice : Instr → Bool
  | .chgeta => true
  | _ => false

def writesCnt : Instr → Bool
  | .cntinc | .cntdec => true
  | _ => false

def readsCnt : Instr → Bool
  | .cntinc | .cntdec | .pushcnt => true
  | _ => false

def writesDoom : Instr → Bool
  | .doom => true
  | _ => false

def readsDoom : Instr → Bool
  | .concl => true
  | _ => false

def writesLatch : Instr → Bool
  | .latset => true
  | _ => false

def readsLatch : Instr → Bool
  | .latclr => true
  | _ => false

/-- The engine's three elements, EP, HALTED and FAULT, are read by no instruction but a full dump (R24, R35, R36). -/
def readsNothing (_ : Instr) : Bool := false

/-- The jumps; and GETCH, which while held leaves EP at itself (the model's choice, assumption 4). -/
def writesEp : Instr → Bool
  | .getch => true
  | i => isJump i

/-- One row of R45. An instruction that is no writer leaves the element as it is; and one that is neither writer nor
reader (nor a full dump) does the same whatever the element holds. -/
def OnlyTouchedBy {α : Type} (get : State → α) (set : State → α → State) (writes reads : Instr → Bool) : Prop :=
  ∀ i s t, Runs i s t → writes i = false →
    get t = get s ∧ (reads i = false → isFullDump i = false → ∀ v, Runs i (set s v) (set t v))

end Sys2Proof.Claims

open Sys2Proof Sys2Proof.Machine Sys2Proof.Claims

/-! ### Encoding and decoding -/

/-- R88: encoding then decoding gives the instruction back with its length, the cursor advances by the length, no other
byte of memory changes; and encoding what was decoded writes the same bytes back. -/
def Obligations.EncodeDecodeInverse : Prop :=
  (∀ (m : Memory) (a : Word) (i : Instr), i.wf = true →
    decodeAt (encodeAt m i a).1 a = .ok (i, i.length) ∧ (encodeAt m i a).2 = a + BitVec.ofNat 16 i.length ∧
      ∀ x : Word, i.length ≤ (x - a).toNat → (encodeAt m i a).1.read x = m.read x) ∧
  ∀ (m : Memory) (a : Word) (i : Instr) (n : Nat), decodeAt m a = .ok (i, n) →
    i.wf = true ∧ (∀ x, (encodeAt m i a).1.read x = m.read x) ∧ (m.wf → (encodeAt m i a).1 = m)

/-- R89 and R84: the opcode byte alone fixes the kind and the length, different opcode bytes are different kinds, and
every byte 0x00 to 0x54 is the opcode of some instruction. `Instr.ctorIdx` is the number of the constructor. -/
def Obligations.OpcodeMapIsBijective : Prop :=
  (∀ (m m' : Memory) (a a' : Word) (i i' : Instr) (n n' : Nat), decodeAt m a = .ok (i, n) → decodeAt m' a' = .ok (i', n') →
    (m.read a = m'.read a' ↔ i.ctorIdx = i'.ctorIdx) ∧ (m.read a = m'.read a' → n = n')) ∧
  (∀ op : Byte, op.toNat ≤ 0x54 → ∃ (m : Memory) (a : Word) (i : Instr) (n : Nat), m.read a = op ∧ decodeAt m a = .ok (i, n)) ∧
  ∀ (m : Memory) (a : Word) (i : Instr) (n : Nat), decodeAt m a = .ok (i, n) → (m.read a).toNat ≤ 0x54

/-- R87 with the two exceptions it names: a decode fails with cause 1 exactly on an opcode byte above 0x54, with cause 2
exactly on CHSET with an operand byte above 4, and in no other way. -/
def Obligations.DecodeFailsExactly : Prop :=
  ∀ (m : Memory) (a : Word),
    (∀ op, decodeAt m a = .error (.invalidOpcode op) ↔ op = m.read a ∧ 0x54 < op.toNat) ∧
    (∀ b, decodeAt m a = .error (.invalidChoice b) ↔ m.read a = 0x44 ∧ b = m.read (a + 1) ∧ 4 < b.toNat) ∧
    ((∃ i n, decodeAt m a = .ok (i, n)) ↔
      (m.read a).toNat ≤ 0x54 ∧ ¬(m.read a = 0x44 ∧ 4 < (m.read (a + 1)).toNat))

/-- R83 and R89: a decode depends on nothing but the instruction's own bytes, not on the address or on any other byte. -/
def Obligations.DecodeReadsOnlyItsBytes : Prop :=
  ∀ (m m' : Memory) (a a' : Word) (i : Instr) (n : Nat), decodeAt m a = .ok (i, n) →
    (∀ k < n, m'.read (a' + BitVec.ofNat 16 k) = m.read (a + BitVec.ofNat 16 k)) → decodeAt m' a' = .ok (i, n)

/-- One written-out word of each format (spec `95_test_vectors.md` section 2.12) decodes to its instruction. -/
def Obligations.WrittenWordsDecode : Prop :=
  decode [0x0F] = .ok .cmp ∧ decode [0x38, 0x24] = .ok (.rget 36) ∧ decode [0x44, 0x04] = .ok (.chset .depth4) ∧
  decode [0x13, 0xFF, 0xFD] = .ok (.ldbi 0xFFFD) ∧ decode [0x3A, 0x02, 0xFE] = .ok (.rseti 2 0xFE) ∧
  decode [0x40, 0x09, 0x00, 0x02] = .ok (.sappm 0x0900 2) ∧
  decode [0x19, 0xFF, 0xFF, 0xFF, 0xFE] = .ok (.ldnumi 0xFFFFFFFE) ∧
  decode [0x53, 0x00, 0x10, 0x00, 0x13] = .ok (.dbgmem 0x0010 0x0013) ∧
  decode [0x3B, 0x04, 0x02, 0x06, 0x00] = .ok (.rcpm 4 2 0x0600) ∧
  decode ([0x35, 0x01, 0xFF, 0x80] ++ List.replicate 33 0 ++ [0x7F]) =
    .ok (.rldi ([0x01, 0xFF, 0x80] ++ List.replicate 33 0 ++ [0x7F])) ∧
  decode [0x44, 0x05] = .error (.invalidChoice 5) ∧ decode [0x55] = .error (.invalidOpcode 0x55)

/-! ### The engine -/

/-- A step runs the decoded instruction on the state with EP advanced past it (R110, R111, the successful decode). -/
def Obligations.StepRunsDecodedInstruction : Prop :=
  ∀ (s : State) (i : Instr) (n : Nat), s.Running → decodeAt s.mem s.ep = .ok (i, n) →
    step s = exec i { s with ep := s.ep + BitVec.ofNat 16 n }

/-- A state has a next state exactly when it is Running: that there is no step from Halted and Fault is R110 and R113;
that a GETCH held without an answer, where R300 has the machine not stepping, has a next state too (the state before it)
is the model's form of the hold (assumption 4). That a terminal state answers the Lean faults `halted` with the exit
status and `faulted` with the triple is the model's form of "there is no step" (assumption 3), and that a state with
HALTED and FAULT both set, which R113 excludes, answers `halted` is its choice (assumption 15). -/
def Obligations.ExactlyRunningStatesStep : Prop :=
  ∀ s : State, ((∃ t, step s = .next t) ↔ s.Running) ∧ (s.halted = true → step s = .fault (.halted s.a)) ∧
    (∀ rec, s.halted = false → s.fault = some rec → step s = .fault (.faulted rec))

/-- No instruction faults or is refused at execution, in any state (R121, R291). That a GETCH held without an answer, whose
step is not complete by R263, answers a next state is the model's form of the hold (assumption 4). No step is refused:
the one refusal `step` could answer is the model's own and unreachable (assumption 10). -/
def Obligations.StepNeverRefuses : Prop :=
  (∀ (i : Instr) (s : State), ∃ t, exec i s = .next t) ∧ ∀ (s : State) (r : Refusal), step s ≠ .refused r

/-- R85, R86, R290, R292: a failed decode in a Running state writes the triple and nothing else, and the state then has no
step. -/
def Obligations.FailedDecodeTakesFault : Prop :=
  ∀ s : State, s.Running →
    (0x54 < (s.mem.read s.ep).toNat →
      decodeAt s.mem s.ep = .error (.invalidOpcode (s.mem.read s.ep)) ∧
      step s = .next { s with fault := some ⟨.invalidOpcode, s.mem.read s.ep, s.ep⟩ } ∧
      ∀ t u, step s = .next t → step t ≠ .next u) ∧
    (s.mem.read s.ep = 0x44 → 4 < (s.mem.read (s.ep + 1)).toNat →
      decodeAt s.mem s.ep = .error (.invalidChoice (s.mem.read (s.ep + 1))) ∧
      step s = .next { s with fault := some ⟨.invalidChoice, s.mem.read (s.ep + 1), s.ep⟩ } ∧
      ∀ t u, step s = .next t → step t ≠ .next u)

/-- The transitions of R114. From Halted and Fault there is no step; a step to Halted is CONCL with DOOM = 1, a step to
Fault is a failed decode, and every other step stays Running. That from Running there always is a step, from a GETCH held
without an answer too, is the model's form of the hold (assumption 4; R300 has the machine not stepping there). -/
def Obligations.TransitionsOfTheStateMachine : Prop :=
  (∀ s : State, (∃ t, step s = .next t) ↔ ¬s.Terminal) ∧ ∀ s t : State, step s = .next t →
    (t.halted = true ↔ (∃ n, decodeAt s.mem s.ep = .ok (.concl, n)) ∧ s.doom = true) ∧
    (t.fault ≠ none ↔ ∃ e, decodeAt s.mem s.ep = .error e) ∧
    (t.Running ↔ ∃ i n, decodeAt s.mem s.ep = .ok (i, n) ∧ ¬(i = .concl ∧ s.doom = true))

/-- R43: the reset value of every element, for every choice of the parameters and every image; the state at the start
of a run is Running. -/
def Obligations.StartOfRun : Prop :=
  (∀ (p : Params) (image : Memory), (State.boot p image).toArchState =
      { a := 0, b := 0, l := 0, ep := 0, dp := 0, f := 0, ch := 0, num := 0, r := List.replicate 37 0, str := [],
        stk := [], mem := image, flag := false, dbg := false, halted := false, fault := none, choice := .depth0,
        cnt := 0, doom := false, latch := false } ∧ (State.boot p image).cfg = p ∧ (State.boot p image).Running) ∧
  State.reset.toArchState = (State.boot State.reset.cfg []).toArchState ∧ ∀ x : Word, State.reset.mem.read x = 0

/-- The MODEL's fields at reset, and which parameters `State.reset` has: the model's choices (assumptions 1, 4, 5, 6),
with the default parameters of R5. -/
def Obligations.ModelFieldsAtReset : Prop :=
  State.reset = State.boot { stackCap := 4095, strCap := 255, verbose := false } [] ∧
  ∀ (p : Params) (image : Memory), (State.boot p image).trace = [] ∧ (State.boot p image).keys = [] ∧
    (State.boot p image).lines = [] ∧ (State.boot p image).lineReqs = 0

/-- R52 and R55: the status port reads Running, Halted or Fault, and the exit status is A in Halted and absent otherwise.
In a state where both were set (which `StepKeepsInvariant` excludes) the status reads Fault: the model's choice. -/
def Obligations.StatusAndExitStatus : Prop :=
  ∀ s : State, (s.status = .running ↔ s.Running) ∧ (s.status = .halted ↔ s.halted = true ∧ s.fault = none) ∧
    (∀ rec, s.status = .fault rec ↔ s.fault = some rec) ∧
    (∀ v, s.exitStatus = some v ↔ s.halted = true ∧ s.fault = none ∧ v = s.a)

/-- The state after reset, and at the start of a run with any canonical image, meets the invariant. -/
def Obligations.ResetMeetsInvariant : Prop :=
  State.reset.Inv ∧ ∀ (p : Params) (image : Memory), image.wf → (State.boot p image).Inv

/-- Every step keeps the invariant: canonical memory, 37 slots, both capacities, the scalar in CH, an allow-listed or
reset DP, Halted and Fault exclusive, and a fault record that matches memory. -/
def Obligations.StepKeepsInvariant : Prop :=
  ∀ s t : State, s.Inv → step s = .next t → t.Inv

/-- The host's actions between steps keep the invariant and change no element of R20 (R51, R54). -/
def Obligations.HostAnswersKeepInvariant : Prop :=
  ∀ (s : State) (c : Word32) (ln : List Byte), s.Inv → isScalar c = true →
    (s.answerChar c).Inv ∧ (s.answerLine ln).Inv ∧ (s.answerChar c).toArchState = s.toArchState ∧
      (s.answerLine ln).toArchState = s.toArchState

/-! ### Whole-machine rules -/

/-- R296: FLAG is set exactly by the causes of the table; after any instruction FLAG is 1 exactly if a cause applied, or
it was 1 and the instruction is not one of the two that clear or toggle it (R33). -/
def Obligations.FlagSetExactlyByItsCauses : Prop :=
  ∀ (i : Instr) (s t : State), exec i s = .next t →
    (t.flag = true ↔ FlagCause s i ∨ (s.flag = true ∧ i ≠ .clf ∧ i ≠ .tgf))

/-- R35, R36, R39, R40, R44: HALTED, FAULT, DOOM and LATCH, once set, stay as they are through every step, and only CLF
and TGF take FLAG from 1 to 0 (R33). -/
def Obligations.OneWayElements : Prop :=
  ∀ s t : State, step s = .next t →
    (s.halted = true → t.halted = true) ∧ (∀ rec, s.fault = some rec → t.fault = some rec) ∧
    (s.doom = true → t.doom = true) ∧ (s.latch = true → t.latch = true) ∧
    (s.flag = true → t.flag = false →
      (∃ n, decodeAt s.mem s.ep = .ok (.clf, n)) ∨ ∃ n, decodeAt s.mem s.ep = .ok (.tgf, n))

/-- R45: who touches what. For every row of the table: an instruction that is no writer of the element leaves it as it is,
and one that is neither a writer nor a reader of it (nor a full dump) does the same whatever it holds; nothing is said of
what a writer's effect depends on. It is about the meanings of the instructions (the fetch and the advance are
`StepRunsDecodedInstruction`). GETCH stands among the writers of EP for its hold, the model's choice (assumption 4). -/
def Obligations.ElementsTouchedByTable : Prop :=
  OnlyTouchedBy (·.a) (fun s v => { s with a := v }) writesA readsA ∧
  OnlyTouchedBy (·.b) (fun s v => { s with b := v }) writesB readsB ∧
  OnlyTouchedBy (·.l) (fun s v => { s with l := v }) writesL readsL ∧
  OnlyTouchedBy (·.f) (fun s v => { s with f := v }) writesF readsF ∧
  OnlyTouchedBy (·.ch) (fun s v => { s with ch := v }) writesCh readsCh ∧
  OnlyTouchedBy (·.num) (fun s v => { s with num := v }) writesNum readsNum ∧
  OnlyTouchedBy (·.r) (fun s v => { s with r := v }) writesR readsR ∧
  OnlyTouchedBy (·.str) (fun s v => { s with str := v }) writesS readsS ∧
  OnlyTouchedBy (·.stk) (fun s v => { s with stk := v }) writesStk readsStk ∧
  OnlyTouchedBy (·.mem) (fun s v => { s with mem := v }) writesMem readsMem ∧
  OnlyTouchedBy (·.ep) (fun s v => { s with ep := v }) writesEp readsNothing ∧
  OnlyTouchedBy (·.dp) (fun s v => { s with dp := v }) writesDp isGated ∧
  OnlyTouchedBy (·.flag) (fun s v => { s with flag := v }) writesFlag readsFlag ∧
  OnlyTouchedBy (·.dbg) (fun s v => { s with dbg := v }) writesDbg readsDbg ∧
  OnlyTouchedBy (·.halted) (fun s v => { s with halted := v }) writesHalted readsNothing ∧
  OnlyTouchedBy (·.fault) (fun s v => { s with fault := v }) readsNothing readsNothing ∧
  OnlyTouchedBy (·.choice) (fun s v => { s with choice := v }) writesChoice readsChoice ∧
  OnlyTouchedBy (·.cnt) (fun s v => { s with cnt := v }) writesCnt readsCnt ∧
  OnlyTouchedBy (·.doom) (fun s v => { s with doom := v }) writesDoom readsDoom ∧
  OnlyTouchedBy (·.latch) (fun s v => { s with latch := v }) writesLatch readsLatch

/-- R53 and R56: a step hands the host at most one event, only from an event-producing instruction with the gate open;
the trace "is not state a program can read" (what was output before changes nothing a step does); and the configuration
inputs never change. -/
def Obligations.TraceIsOutputOnly : Prop :=
  ∀ s t : State, step s = .next t → t.cfg = s.cfg ∧
    ∃ new : List Event, t.trace = s.trace ++ new ∧ new.length ≤ 1 ∧
      (new ≠ [] → ∃ i n, decodeAt s.mem s.ep = .ok (i, n) ∧ isEmitting i = true ∧ GateOpen s) ∧
      ∀ before, step { s with trace := before } = .next { t with trace := before ++ new }

/-! ### Memory and the loader -/

/-- R62 and R63: a value written is read back, by the sums and bit fields of the rules; every byte outside is as it was;
the sequence form does the same; nothing faults, and addresses wrap. -/
def Obligations.MemoryReadAfterWrite : Prop :=
  (∀ (m : Memory) (a : Word) (n : Nat), memRead m a n = readValue m a n ∧ memBytes m a n = bytesAt m a n) ∧
  (∀ (m : Memory) (a : Word) (bs : List Byte), bs.length ≤ 65536 → ∀ x,
    (memWriteBytes m a bs).read x = (bs[(x - a).toNat]?).getD (m.read x)) ∧
  ∀ (m : Memory) (a : Word) (n v : Nat), n ≤ 256 → v < 256 ^ n →
    readValue (memWrite m a n v) a n = v ∧
    (∀ i < n, (memWrite m a n v).read (a + BitVec.ofNat 16 i) = BitVec.ofNat 8 (v / 256 ^ (n - 1 - i))) ∧
    ∀ x : Word, n ≤ (x - a).toNat → (memWrite m a n v).read x = m.read x

/-- Two memories in canonical form that read the same at every address are equal (the model's representation,
assumption 8), and every write keeps the form. -/
def Obligations.CanonicalMemory : Prop :=
  (∀ m m' : Memory, m.wf → m'.wf → (∀ x : Word, m.read x = m'.read x) → m = m') ∧
  ∀ (m : Memory) (a : Word) (bs : List Byte), m.wf → (memWriteBytes m a bs).wf

/-- R321: a sequence of items is written as one run of bytes from the offset on, and the final cursor is past them; and a
program loaded without wrapping onto itself decodes, instruction by instruction, where it was put. -/
def Obligations.LoaderWritesItems : Prop :=
  (∀ (m : Memory) (off : Word) (items : List LoadItem), (∀ i, .instr i ∈ items → i.wf = true) →
    ∀ bytes : List Byte, bytes = items.flatMap itemBytes →
    loadItems m off items = (memWriteBytes m off bytes, off + BitVec.ofNat 16 bytes.length)) ∧
  ∀ (m : Memory) (off : Word) (before after : List Instr) (i : Instr),
    (∀ j ∈ before ++ i :: after, j.wf = true) → ((before ++ i :: after).map Instr.length).sum ≤ 65536 →
    decodeAt (loadItems m off ((before ++ i :: after).map .instr)).1
      (off + BitVec.ofNat 16 (before.map Instr.length).sum) = .ok (i, i.length)

/-! ### Control -/

/-- R115, R116, R118, R119, R120: NOP, DOOM, CONCL, CLF, TGF. -/
def Obligations.ControlInstructions : Prop :=
  Encodes .nop [0x00] ∧ Encodes .doom [0x01] ∧ Encodes .concl [0x02] ∧ Encodes .clf [0x03] ∧ Encodes .tgf [0x04] ∧
  ∀ s : State, Runs .nop s s ∧ Runs .doom s { s with doom := true } ∧
    (s.doom = true → Runs .concl s { s with halted := true }) ∧ (s.doom = false → Runs .concl s s) ∧
    Runs .clf s { s with flag := false } ∧
    (s.flag = true → Runs .tgf s { s with flag := false }) ∧ (s.flag = false → Runs .tgf s { s with flag := true })

/-- R123 and R124: SETDP accepts exactly the addresses that are Fibonacci numbers and prime or semiprime, and the list of
them is the one R124 gives. -/
def Obligations.SetdpAcceptsExactlyAllowList : Prop :=
  (∀ addr : Word, Encodes (.setdp addr) [0x05, hi8 addr, lo8 addr]) ∧
  (∀ (addr : Word) (s : State),
    (IsFibonacci addr.toNat ∧ (addr.toNat.Prime ∨ IsSemiprime addr.toNat) → Runs (.setdp addr) s { s with dp := addr }) ∧
    (¬(IsFibonacci addr.toNat ∧ (addr.toNat.Prime ∨ IsSemiprime addr.toNat)) →
      Runs (.setdp addr) s { s with flag := true })) ∧
  ∀ n < 65536, IsFibonacci n ∧ (n.Prime ∨ IsSemiprime n) ↔
    n ∈ [2, 3, 5, 13, 21, 34, 55, 89, 233, 377, 1597, 4181, 17711, 28657]

/-! ### Arithmetic, logic, comparison -/

/-- R131, R132, R133: the exact result wrapped to 16 bits goes to B, and FLAG is set exactly when it does not fit. -/
def Obligations.CheckedArithmetic : Prop :=
  Encodes .add [0x06] ∧ Encodes .sub [0x07] ∧ Encodes .mul [0x08] ∧
  ∀ (s : State) (i : Instr) (z : Int),
    (i = .add ∧ z = s.b.toInt + sN 16 s.l.toNat) ∨ (i = .sub ∧ z = s.b.toInt - sN 16 s.l.toNat) ∨
      (i = .mul ∧ z = s.b.toInt * sN 16 s.l.toNat) →
    ∃ v : Word, (65536 : Int) ∣ v.toInt - z ∧
      (-32768 ≤ z ∧ z ≤ 32767 → Runs i s { s with b := v }) ∧
      (¬(-32768 ≤ z ∧ z ≤ 32767) → Runs i s { s with b := v, flag := true })

/-- R134 and R135 with the table of R141 (c): the quotient truncates toward zero, the remainder has the sign of the
dividend, a zero divisor gives 0, -32768 / -1 wraps, FLAG is unaffected. -/
def Obligations.WrappingDivision : Prop :=
  Encodes .div [0x09] ∧ Encodes .mod [0x0A] ∧
  ∀ (s : State) (l : Int), l = sN 16 s.l.toNat → ∃ (q r : Int) (v w : Word),
    (l = 0 → q = 0 ∧ r = 0) ∧
    (l ≠ 0 → s.b.toInt = q * l + r ∧ |r| < |l| ∧ (r ≠ 0 → (0 < r ↔ 0 < s.b.toInt))) ∧
    (65536 : Int) ∣ v.toInt - q ∧ w.toInt = r ∧ (s.b.toInt = -32768 ∧ l = -1 → v.toInt = -32768) ∧
    Runs .div s { s with b := v } ∧ Runs .mod s { s with b := w }

/-- R136 to R139: bit by bit; NOT is `-B - 1` and acts on B alone; FLAG is unaffected. -/
def Obligations.LogicBitByBit : Prop :=
  Encodes .not [0x0B] ∧ Encodes .and [0x0C] ∧ Encodes .or [0x0D] ∧ Encodes .xor [0x0E] ∧
  ∀ s : State, ∃ n a o x : Word,
    n.toInt = -s.b.toInt - 1 ∧ n.toNat = 0xFFFF - s.b.toNat ∧
    (∀ k, a.getLsbD k = (s.b.getLsbD k && s.l.getLsbD k) ∧ o.getLsbD k = (s.b.getLsbD k || s.l.getLsbD k) ∧
      x.getLsbD k = (s.b.getLsbD k != s.l.getLsbD k)) ∧
    Runs .not s { s with b := n } ∧ Runs .and s { s with b := a } ∧ Runs .or s { s with b := o } ∧
    Runs .xor s { s with b := x }

/-- R140: both clamps go to the maximum, and each sets FLAG. -/
def Obligations.CompareClamps : Prop :=
  Encodes .cmp [0x0F] ∧
  ∀ (s : State) (lc z : Int), lc = min (s.l.toNat : Int) 32767 → z = s.b.toInt - lc → ∃ v : Word,
    (-32768 ≤ z → v.toInt = z) ∧ (z < -32768 → v.toInt = 32767) ∧
    (s.l.toNat ≤ 32767 → -32768 ≤ z → Runs .cmp s { s with b := v }) ∧
    (32767 < s.l.toNat ∨ z < -32768 → Runs .cmp s { s with b := v, flag := true })

/-! ### Loads and stores -/

/-- R150, R153, R156, R159: immediates. -/
def Obligations.LoadImmediates : Prop :=
  ∀ s : State,
    (∀ imm : Byte, Encodes (.ldai imm) [0x10, imm] ∧ Runs (.ldai imm) s { s with a := imm }) ∧
    (∀ imm : Word, Encodes (.ldbi imm) [0x13, hi8 imm, lo8 imm] ∧
      ∃ v : Word, v.toInt = sN 16 imm.toNat ∧ Runs (.ldbi imm) s { s with b := v }) ∧
    (∀ imm : Word, Encodes (.ldli imm) [0x16, hi8 imm, lo8 imm] ∧ Runs (.ldli imm) s { s with l := imm }) ∧
    ∀ imm : Word32,
      Encodes (.ldnumi imm)
        [0x19, imm.extractLsb' 24 8, imm.extractLsb' 16 8, imm.extractLsb' 8 8, imm.extractLsb' 0 8] ∧
      ∃ v : Word32, v.toInt = sN 32 imm.toNat ∧ Runs (.ldnumi imm) s { s with num := v }

/-- R151, R154, R157: loads; the byte at `addr` is the high byte, the byte at `addr +16 1` the low byte. -/
def Obligations.LoadsFromMemory : Prop :=
  ∀ (s : State) (addr : Word),
    Encodes (.ldam addr) [0x11, hi8 addr, lo8 addr] ∧ Encodes (.ldbm addr) [0x14, hi8 addr, lo8 addr] ∧
    Encodes (.ldlm addr) [0x17, hi8 addr, lo8 addr] ∧
    Runs (.ldam addr) s { s with a := s.mem.read addr } ∧
    ∃ v : Word, v.toNat = (s.mem.read addr).toNat * 256 + (s.mem.read (addr + 1)).toNat ∧
      v.toInt = sN 16 v.toNat ∧ Runs (.ldbm addr) s { s with b := v } ∧ Runs (.ldlm addr) s { s with l := v }

/-- R152, R155, R158: stores, with every other byte of memory unchanged. -/
def Obligations.StoresToMemory : Prop :=
  ∀ (s : State) (addr : Word),
    Encodes (.stam addr) [0x12, hi8 addr, lo8 addr] ∧ Encodes (.stbm addr) [0x15, hi8 addr, lo8 addr] ∧
    Encodes (.stlm addr) [0x18, hi8 addr, lo8 addr] ∧
    Stores (.stam addr) s addr [s.a] ∧ Stores (.stbm addr) s addr [hi8 s.b, lo8 s.b] ∧
    Stores (.stlm addr) s addr [hi8 s.l, lo8 s.l]

/-! ### The stack -/

/-- R171 in R178, R179, R180, R182, R184, R186, R188, R190, R192, and in the operation of PUSHCNT (R249): the pushes, least
significant byte first, all or nothing. That nothing pops into CNT and that it moves only by one are
`ElementsTouchedByTable` and `FlagsStructInstructions`. -/
def Obligations.PushesLeastSignificantFirst : Prop :=
  (∀ imm : Byte, Encodes (.pushi imm) [0x1C, imm]) ∧ (∀ imm : Word, Encodes (.pushw imm) [0x1D, hi8 imm, lo8 imm]) ∧
  (∀ addr : Word, Encodes (.pushm addr) [0x1E, hi8 addr, lo8 addr]) ∧
  Encodes .pusha [0x20] ∧ Encodes .pushb [0x22] ∧ Encodes .pushl [0x24] ∧ Encodes .pushf [0x26] ∧
  Encodes .pushch [0x28] ∧ Encodes .pushnum [0x2A] ∧ Encodes .pushcnt [0x48] ∧
  ∀ s : State, (∀ imm, Pushes (.pushi imm) s 1 imm.toNat) ∧ (∀ imm, Pushes (.pushw imm) s 2 imm.toNat) ∧
    (∀ addr, Pushes (.pushm addr) s 1 (s.mem.read addr).toNat) ∧ Pushes .pusha s 1 s.a.toNat ∧
    Pushes .pushb s 2 s.b.toNat ∧ Pushes .pushl s 2 s.l.toNat ∧ Pushes .pushf s 8 s.f.toNat ∧
    Pushes .pushch s 4 s.ch.toNat ∧ Pushes .pushnum s 4 s.num.toNat ∧ Pushes .pushcnt s 8 s.cnt.toNat

/-- R183, R185, R187, R189, R193: the pops into registers; the top byte is the most significant; on underflow the
destination keeps its value. -/
def Obligations.PopsMostSignificantOnTop : Prop :=
  Encodes .popa [0x21] ∧ Encodes .popb [0x23] ∧ Encodes .popl [0x25] ∧ Encodes .popf [0x27] ∧ Encodes .popnum [0x2B] ∧
  (∀ (stk : List Byte) (n : Nat), n ≤ stk.length → topValue stk n < 256 ^ n) ∧
  ∀ s : State, Pops .popa s 1 (fun t v => { t with a := BitVec.ofNat 8 v }) ∧
    Pops .popb s 2 (fun t v => { t with b := BitVec.ofNat 16 v }) ∧
    Pops .popl s 2 (fun t v => { t with l := BitVec.ofNat 16 v }) ∧
    Pops .popf s 8 (fun t v => { t with f := BitVec.ofNat 64 v }) ∧
    Pops .popnum s 4 (fun t v => { t with num := BitVec.ofNat 32 v })

/-- R181: POPM stores the popped byte at `addr` and leaves every other byte of memory alone; on an empty stack nothing is
stored. -/
def Obligations.PopToMemory : Prop :=
  ∀ (s : State) (addr : Word), Encodes (.popm addr) [0x1F, hi8 addr, lo8 addr] ∧
    (s.stk = [] → Runs (.popm addr) s { s with flag := true }) ∧
    ∀ (rest : List Byte) (v : Byte), s.stk = rest ++ [v] → ∃ m : Memory,
      (∀ x, m.read x = if x = addr then v else s.mem.read x) ∧ (s.mem.wf → m.wf) ∧
      Runs (.popm addr) s { s with stk := rest, mem := m }

/-- R191: a four-byte pattern that is no scalar value is refused whole. -/
def Obligations.PopCharChecksScalar : Prop :=
  Encodes .popch [0x29] ∧
  ∀ (s : State) (v : Nat), v = topValue s.stk 4 →
    (s.stk.length < 4 → Runs .popch s { s with flag := true }) ∧
    (4 ≤ s.stk.length → ¬(v ≤ 0xD7FF ∨ (0xE000 ≤ v ∧ v ≤ 0x10FFFF)) → Runs .popch s { s with flag := true }) ∧
    (4 ≤ s.stk.length → v ≤ 0xD7FF ∨ (0xE000 ≤ v ∧ v ≤ 0x10FFFF) →
      Runs .popch s { s with stk := s.stk.take (s.stk.length - 4), ch := BitVec.ofNat 32 v })

/-- R176, R177, R194: whole blocks of stack space, all or nothing. -/
def Obligations.StackSpaceAllOrNothing : Prop :=
  (∀ n : Word, Encodes (.salloc n) [0x1A, hi8 n, lo8 n] ∧ Encodes (.sdealloc n) [0x1B, hi8 n, lo8 n]) ∧
  Encodes .pushs [0x2C] ∧
  ∀ (s : State) (n : Word),
    (s.stk.length + n.toNat ≤ s.cfg.stackCap.val →
      Runs (.salloc n) s { s with stk := s.stk ++ List.replicate n.toNat 0 }) ∧
    (s.cfg.stackCap.val < s.stk.length + n.toNat → Runs (.salloc n) s { s with flag := true }) ∧
    (n.toNat ≤ s.stk.length → Runs (.sdealloc n) s { s with stk := s.stk.take (s.stk.length - n.toNat) }) ∧
    (s.stk.length < n.toNat → Runs (.sdealloc n) s { s with flag := true }) ∧
    (s.stk.length + s.str.length ≤ s.cfg.stackCap.val → Runs .pushs s { s with stk := s.stk ++ s.str }) ∧
    (s.cfg.stackCap.val < s.stk.length + s.str.length → Runs .pushs s { s with flag := true })

/-- R171: the push order is the one that makes a pop return what was pushed: a push that fits, then the pop of the same
register, is the identity; and PUSHB then POPL moves the bit pattern of B into L (R187). -/
def Obligations.PushThenPopRestores : Prop :=
  ∀ s : State,
    (s.stk.length + 1 ≤ s.cfg.stackCap.val → ∃ t, Runs .pusha s t ∧ Runs .popa t s) ∧
    (s.stk.length + 2 ≤ s.cfg.stackCap.val →
      (∃ t, Runs .pushb s t ∧ Runs .popb t s) ∧ (∃ t, Runs .pushl s t ∧ Runs .popl t s) ∧
      ∃ t, Runs .pushb s t ∧ Runs .popl t { s with l := s.b }) ∧
    (s.stk.length + 4 ≤ s.cfg.stackCap.val →
      (∃ t, Runs .pushnum s t ∧ Runs .popnum t s) ∧
      (isScalar s.ch = true → ∃ t, Runs .pushch s t ∧ Runs .popch t s)) ∧
    (s.stk.length + 8 ≤ s.cfg.stackCap.val → ∃ t, Runs .pushf s t ∧ Runs .popf t s)

/-! ### Jumps -/

/-- R200 to R207: the seven jumps. -/
def Obligations.JumpsPopTheirTarget : Prop :=
  Encodes .pep [0x2D] ∧ Encodes .pepz [0x2E] ∧ Encodes .pepp [0x2F] ∧ Encodes .pepn [0x30] ∧ Encodes .pepf [0x31] ∧
  Encodes .pepaz [0x32] ∧ Encodes .pepd [0x33] ∧
  ∀ s : State, JumpsIf .pep s True ∧ JumpsIf .pepz s (s.b.toInt = 0) ∧ JumpsIf .pepp s (0 < s.b.toInt) ∧
    JumpsIf .pepn s (s.b.toInt < 0) ∧ JumpsIf .pepf s (s.flag = true) ∧ JumpsIf .pepaz s (s.a.toNat = 0) ∧
    JumpsIf .pepd s (s.dbg = true)

/-! ### The array register -/

/-- R216 to R219: the bulk operations on all 37 slots. RSTM is stated where the register has its 37 slots, which every
reachable state does (`StepKeepsInvariant`). -/
def Obligations.ArrayBulkTransfers : Prop :=
  Encodes .rclr [0x34] ∧ (∀ v : List Byte, v.length = 37 → Encodes (.rldi v) (0x35 :: v)) ∧
  (∀ addr : Word, Encodes (.rldm addr) [0x36, hi8 addr, lo8 addr] ∧ Encodes (.rstm addr) [0x37, hi8 addr, lo8 addr]) ∧
  ∀ s : State,
    Runs .rclr s { s with r := List.replicate 37 0 } ∧
    (∀ v : List Byte, v.length = 37 → ∃ r : List Byte, r.length = 37 ∧
      (∀ i < 37, (r.getD i 0).toInt = sN 8 (v.getD i 0).toNat) ∧ Runs (.rldi v) s { s with r := r }) ∧
    (∀ addr : Word, ∃ r : List Byte, r.length = 37 ∧
      (∀ i < 37, (r.getD i 0).toInt = sN 8 (s.mem.read (addr + BitVec.ofNat 16 i)).toNat) ∧
      Runs (.rldm addr) s { s with r := r }) ∧
    ∀ addr : Word, s.r.length = 37 → Stores (.rstm addr) s addr s.r

/-- R220 to R223: the indexed accessors and the range copy; an index or range past slot 36 sets FLAG alone. RCPM is stated
where the register has its 37 slots, which every reachable state does (`StepKeepsInvariant`). -/
def Obligations.ArraySlotAccess : Prop :=
  (∀ idx : Byte, Encodes (.rget idx) [0x38, idx] ∧ Encodes (.rset idx) [0x39, idx]) ∧
  (∀ idx imm : Byte, Encodes (.rseti idx imm) [0x3A, idx, imm]) ∧
  (∀ (idx cnt : Byte) (addr : Word), Encodes (.rcpm idx cnt addr) [0x3B, idx, cnt, hi8 addr, lo8 addr]) ∧
  ∀ (s : State) (idx : Byte),
    (idx.toNat ≤ 36 → Runs (.rget idx) s { s with a := s.r.getD idx.toNat 0 } ∧
      Runs (.rset idx) s { s with r := s.r.set idx.toNat s.a } ∧
      ∀ imm, Runs (.rseti idx imm) s { s with r := s.r.set idx.toNat imm }) ∧
    (36 < idx.toNat → Runs (.rget idx) s { s with flag := true } ∧ Runs (.rset idx) s { s with flag := true } ∧
      ∀ imm, Runs (.rseti idx imm) s { s with flag := true }) ∧
    ∀ (cnt : Byte) (addr : Word),
      (37 < idx.toNat + cnt.toNat → Runs (.rcpm idx cnt addr) s { s with flag := true }) ∧
      (idx.toNat + cnt.toNat ≤ 37 → s.r.length = 37 →
        Stores (.rcpm idx cnt addr) s addr ((List.range cnt.toNat).map fun k => s.r.getD (idx.toNat + k) 0))

/-! ### The string register -/

/-- R231, R234 to R238: clear, append, get, set, length. SLEN is stated where `|S| <= 255`, which every reachable state
meets (`StepKeepsInvariant`). -/
def Obligations.StringRegisterAccess : Prop :=
  Encodes .sclr [0x3C] ∧ Encodes .sapp [0x3F] ∧
  (∀ (addr : Word) (n : Byte), Encodes (.sappm addr n) [0x40, hi8 addr, lo8 addr, n]) ∧
  (∀ idx : Byte, Encodes (.sget idx) [0x41, idx] ∧ Encodes (.sset idx) [0x42, idx]) ∧ Encodes .slen [0x43] ∧
  ∀ s : State, Runs .sclr s { s with str := [] } ∧
    (s.str.length + 1 ≤ s.cfg.strCap.val → Runs .sapp s { s with str := s.str ++ [s.a] }) ∧
    (s.cfg.strCap.val < s.str.length + 1 → Runs .sapp s { s with flag := true }) ∧
    (∀ (addr : Word) (n : Byte),
      (s.str.length + n.toNat ≤ s.cfg.strCap.val →
        Runs (.sappm addr n) s { s with str := s.str ++ bytesAt s.mem addr n.toNat }) ∧
      (s.cfg.strCap.val < s.str.length + n.toNat → Runs (.sappm addr n) s { s with flag := true })) ∧
    (∀ idx : Byte,
      (idx.toNat < s.str.length → Runs (.sget idx) s { s with a := s.str.getD idx.toNat 0 } ∧
        Runs (.sset idx) s { s with str := s.str.set idx.toNat s.a }) ∧
      (s.str.length ≤ idx.toNat → Runs (.sget idx) s { s with flag := true } ∧
        Runs (.sset idx) s { s with flag := true })) ∧
    (s.str.length ≤ 255 → ∃ v : Byte, v.toNat = s.str.length ∧ Runs .slen s { s with a := v })

/-- R232 and R233: the string in memory is zero-terminated. SSTM is stated where `|S| <= 255`, which every reachable
state meets (`StepKeepsInvariant`). -/
def Obligations.StringInMemory : Prop :=
  ∀ (s : State) (addr : Word),
    Encodes (.sldm addr) [0x3D, hi8 addr, lo8 addr] ∧ Encodes (.sstm addr) [0x3E, hi8 addr, lo8 addr] ∧
    (∀ n ≤ s.cfg.strCap.val, s.mem.read (addr + BitVec.ofNat 16 n) = 0 →
      (∀ k < n, s.mem.read (addr + BitVec.ofNat 16 k) ≠ 0) →
      Runs (.sldm addr) s { s with str := bytesAt s.mem addr n }) ∧
    ((∀ n ≤ s.cfg.strCap.val, s.mem.read (addr + BitVec.ofNat 16 n) ≠ 0) → Runs (.sldm addr) s { s with flag := true }) ∧
    (s.str.length ≤ 255 → Stores (.sstm addr) s addr (s.str ++ [0]))

/-- R233: SSTM then SLDM at the same address restores a string without a zero byte, and not one with: the corner case
"stops there". -/
def Obligations.StringRoundTrip : Prop :=
  ∀ (s t : State) (addr : Word), s.str.length ≤ s.cfg.strCap.val → Runs (.sstm addr) s t →
    Runs (.sldm addr) t { t with str := s.str.takeWhile (· ≠ 0) }

/-! ### The flags struct -/

/-- R245 to R248, R251, R252: CHSET, CHGETA, CNTINC, CNTDEC, LATSET, LATCLR. The five choices are 0 to 4 (R37). -/
def Obligations.FlagsStructInstructions : Prop :=
  Encodes (.chset .depth0) [0x44, 0] ∧ Encodes (.chset .depth1) [0x44, 1] ∧ Encodes (.chset .depth2) [0x44, 2] ∧
  Encodes (.chset .depth3) [0x44, 3] ∧ Encodes (.chset .depth4) [0x44, 4] ∧ Encodes .chgeta [0x45] ∧
  Encodes .cntinc [0x46] ∧ Encodes .cntdec [0x47] ∧ Encodes .latset [0x49] ∧ Encodes .latclr [0x4A] ∧
  (∀ (s : State) (b : Byte), s.Running → s.mem.read s.ep = 0x44 → s.mem.read (s.ep + 1) = b → 4 < b.toNat →
    step s = .next { s with fault := some ⟨.invalidChoice, b, s.ep⟩ }) ∧
  ∀ s : State, (∀ c, Runs (.chset c) s { s with choice := c }) ∧
    (∃ v : Byte, v.toNat = s.choice.ctorIdx ∧ Runs .chgeta s { s with a := v }) ∧
    (∃ c : Word64, c.toNat = min (s.cnt.toNat + 1) (2 ^ 64 - 1) ∧ Runs .cntinc s { s with cnt := c }) ∧
    (∃ c : Word64, c.toNat = s.cnt.toNat - 1 ∧ Runs .cntdec s { s with cnt := c }) ∧
    Runs .latset s { s with latch := true } ∧ (s.latch = true → Runs .latclr s { s with flag := true }) ∧
    (s.latch = false → Runs .latclr s s)

/-- R252: CLF then LATCLR shows LATCH in FLAG. -/
def Obligations.LatchShownInFlag : Prop :=
  ∀ s : State, ∃ t, Runs .clf s t ∧ Runs .latclr t { s with flag := s.latch }

/-! ### The gated instructions -/

/-- R262 for all ten gated instructions: with the gate closed there is no event, no request to the host, no other change
than FLAG; with it open the instruction's body runs (the statements below say which), and success never clears FLAG. With
the gate open a GETCH without an answer is held and not complete (R263); that it answers a next state there, EP put back
(`GetCharHoldsUntilAnswered`), is the model's form of the hold (assumption 4). -/
def Obligations.GateDecidesGatedInstructions : Prop :=
  ∀ (i : Instr) (s : State), isGated i = true →
    (s.mem.read s.dp ≠ 0x2E → Runs i s { s with flag := true }) ∧
    (s.mem.read s.dp = 0x2E → ∃ t, Runs i s t ∧ (s.flag = true → t.flag = true))

/-- R263: with the gate open and an answer given, GETCH writes it to CH and consumes it. -/
def Obligations.GetCharTakesAnswer : Prop :=
  Encodes .getch [0x4B] ∧
  ∀ (s : State) (c : Word32) (rest : List Word32), s.keys = c :: rest →
    Gated .getch s { s with ch := c, keys := rest }

/-- The hold of R263 and R300 as the model has it (assumption 4): while the host has not answered, a step changes nothing;
once it answers, the same step completes, with the advance of EP and the write of CH. -/
def Obligations.GetCharHoldsUntilAnswered : Prop :=
  ∀ s : State, s.Holding → step s = .next s ∧
    ∀ c : Word32, step (s.answerChar c) = .next { s with ch := c, ep := s.ep + 1 }

/-- R264: with the gate open GETLN takes the next line, listed or free (assumption 5), and replaces S, or sets FLAG and
loses the line when it is too long. -/
def Obligations.GetLineReplacesString : Prop :=
  Encodes .getln [0x4C] ∧
  ∀ (s : State) (ln : List Byte) (lines : List (List Byte)) (reqs : Nat),
    (s.lines = ln :: lines ∧ reqs = s.lineReqs) ∨
      (s.lines = [] ∧ lines = [] ∧ ln = Config.lineAnswer s.lineReqs ∧ reqs = s.lineReqs + 1) →
    (ln.length ≤ s.cfg.strCap.val → Gated .getln s { s with str := ln, lines := lines, lineReqs := reqs }) ∧
    (s.cfg.strCap.val < ln.length → Gated .getln s { s with flag := true, lines := lines, lineReqs := reqs })

/-- R265, R266, R267 with R261: the three writes. -/
def Obligations.WritesEmitTheirEvent : Prop :=
  Encodes .wrch [0x4D] ∧ Encodes .wrlns [0x4E] ∧ (∀ addr : Word, Encodes (.wrlnm addr) [0x4F, hi8 addr, lo8 addr]) ∧
  ∀ s : State, Emits .wrch s (.outChar (prefixOf s) s.ch) ∧ Emits .wrlns s (.outLine (prefixOf s) s.str) ∧
    ∀ (addr : Word) (n : Nat), n ≤ 65536 → (∀ k < n, s.mem.read (addr + BitVec.ofNat 16 k) ≠ 0) →
      (n < 65536 → s.mem.read (addr + BitVec.ofNat 16 n) = 0) →
      Emits (.wrlnm addr) s (.outLine (prefixOf s) (bytesAt s.mem addr n))

/-- R275, R276, R277, R280: the toggle and the two state dumps, with the contents of the snapshots. -/
def Obligations.ToggleAndStateDumps : Prop :=
  Encodes .tgdbg [0x50] ∧ Encodes .dbgst [0x51] ∧ Encodes .dbgstc [0x52] ∧
  ∀ s : State, Gated .tgdbg s { s with dbg := !s.dbg } ∧
    Emits .dbgst s (.dumpFull (prefixOf s) s.toArchState) ∧
    Emits .dbgstc s (.dumpCompact (prefixOf s)
      { a := s.a, b := s.b, l := s.l, f := s.f, ch := s.ch, num := s.num, ep := s.ep, dp := s.dp, flag := s.flag,
        dbg := s.dbg, halted := s.halted, choice := s.choice, cnt := s.cnt, doom := s.doom, latch := s.latch,
        stkLen := s.stk.length, strLen := s.str.length })

/-- R278 and R279: the range dumps; the memory range is half-open and wraps, the stack range is half-open and clipped. -/
def Obligations.RangeDumps : Prop :=
  (∀ start stop : Word, Encodes (.dbgmem start stop) [0x53, hi8 start, lo8 start, hi8 stop, lo8 stop] ∧
    Encodes (.dbgstk start stop) [0x54, hi8 start, lo8 start, hi8 stop, lo8 stop]) ∧
  ∀ (s : State) (start stop : Word),
    (∀ n : Nat, (n : Int) = ((stop.toNat : Int) - start.toNat) % 65536 →
      Emits (.dbgmem start stop) s (.dumpMem (prefixOf s) start (bytesAt s.mem start n))) ∧
    ∀ lo hi : Nat, lo = min start.toNat s.stk.length → hi = min stop.toNat s.stk.length →
      Emits (.dbgstk start stop) s
        (.dumpStk (prefixOf s) start stop ((List.range (hi - lo)).map fun k => s.stk.getD (lo + k) 0))

/-! ### The run -/

/-- R112 and R113: the run loop. A run ends within a number of steps with a result exactly when a chain of that many
steps or fewer leads from the reset state with the image loaded to a state that has no step, and the result is the exit
status A in Halted, the triple in Fault, with that state. Once HALTED = 1 (and no fault is set: R113 excludes both) the
loop answers A at once, whatever stands in memory, which is not read. That the host's answers are listed beforehand is the
model's form of an input stream, that a held GETCH is a step of the chain its form of the hold (assumptions 4, 5), and the
bound its form of a loop that may not end (assumption 17). -/
def Obligations.RunRepeatsStep : Prop :=
  (∀ (p : Params) (image : Memory) (keys : List Word32) (lines : List (List Byte)) (bound : Nat) (r : RunResult),
    run p image keys lines bound = some r ↔
      ∃ (n : Nat) (chain : Nat → State), n ≤ bound ∧
        chain 0 = { State.boot p image with keys := keys, lines := lines } ∧
        (∀ j < n, step (chain j) = .next (chain (j + 1))) ∧ (∀ t, step (chain n) ≠ .next t) ∧
        (((chain n).fault = none ∧ r = .exit (chain n).a (chain n)) ∨
          ∃ rec, (chain n).fault = some rec ∧ r = .abort rec (chain n))) ∧
  ∀ (s : State) (m : Memory) (bound : Nat), s.halted = true → s.fault = none →
    step { s with mem := m } = step s ∧ runFrom bound { s with mem := m } = some (.exit s.a { s with mem := m })

/-- R113: a run that ends has one result, which more steps do not change; it ends or runs for ever, never both; and a
step changes neither its result nor whether it ends. The bound is the model's form of the loop (assumption 17). -/
def Obligations.RunEndsOnceOrNever : Prop :=
  ∀ s : State, (∀ (k k' : Nat) (r : RunResult), runFrom k s = some r → k ≤ k' → runFrom k' s = some r) ∧
    (∀ r r' : RunResult, s.RunEnds r → s.RunEnds r' → r = r') ∧
    (s.RunsForEver ↔ ∀ r : RunResult, ¬s.RunEnds r) ∧
    ∀ t : State, step s = .next t → (∀ r : RunResult, s.RunEnds r ↔ t.RunEnds r) ∧ (s.RunsForEver ↔ t.RunsForEver)

/-- R113: "GETCH may wait for ever". While the host does not answer, a run at a GETCH with the gate open does not end (the
hold in the model's form, assumption 4); and once the host answers, the run goes on past it with CH written. -/
def Obligations.UnansweredGetCharNeverEnds : Prop :=
  ∀ s : State, s.Holding → s.RunsForEver ∧
    ∀ (c : Word32) (r : RunResult), (s.answerChar c).RunEnds r ↔ ({ s with ch := c, ep := s.ep + 1 } : State).RunEnds r

/-- R54: an answer the host gives before a step and one it gives after it come to the same, unless that very step asks for
it: what the listed answers stand for (assumptions 4, 5) does not depend on when they are listed. -/
def Obligations.AnswersMayComeEarly : Prop :=
  ∀ s t : State, step s = .next t →
    (∀ c : Word32, ¬s.Holding → step (s.answerChar c) = .next (t.answerChar c)) ∧
    ∀ ln : List Byte, ¬(decodeAt s.mem s.ep = .ok (.getln, 1) ∧ s.gate = true ∧ s.lines = []) →
      step (s.answerLine ln) = .next (t.answerLine ln)
end

