-- ==== Sys2Proof/Laws/Bytes.lean ====
section
/-! SUPPORT. Byte order: what the helpers of Machine/Operands.lean do. -/

namespace Sys2Proof

@[simp] theorem leNat_nil : leNat [] = 0 := rfl
@[simp] theorem leNat_cons (b : Byte) (bs : List Byte) : leNat (b :: bs) = b.toNat + 256 * leNat bs := rfl
@[simp] theorem leBytes_zero (v : Nat) : leBytes 0 v = [] := rfl
@[simp] theorem leBytes_succ (n v : Nat) : leBytes (n + 1) v = BitVec.ofNat 8 v :: leBytes n (v / 256) := rfl

@[simp] theorem length_leBytes (n v : Nat) : (leBytes n v).length = n := by
  induction n generalizing v with
  | zero => rfl
  | succ n ih => simp [ih]

@[simp] theorem length_beBytes (n v : Nat) : (beBytes n v).length = n := by simp [beBytes]

/-- The bytes of a value, read back, give its low `8n` bits. -/
theorem leNat_leBytes (n v : Nat) : leNat (leBytes n v) = v % 256 ^ n := by
  induction n generalizing v with
  | zero => simp [Nat.mod_one]
  | succ n ih =>
    rw [leBytes_succ, leNat_cons, ih, BitVec.toNat_ofNat]
    exact (pow_succ' 256 n ▸ Nat.mod_mul).symm

/-- A value of `n` bytes is below `256 ^ n`. -/
theorem leNat_lt (bs : List Byte) : leNat bs < 256 ^ bs.length := by
  induction bs with
  | nil => simp
  | cons b bs ih =>
    have hb := b.isLt
    simp only [leNat_cons, List.length_cons, Nat.pow_succ]
    omega

/-- The bytes of a number read from bytes are those bytes. -/
theorem leBytes_leNat (bs : List Byte) : leBytes bs.length (leNat bs) = bs := by
  induction bs with
  | nil => rfl
  | cons b bs ih =>
    have hb := b.isLt
    simp only [List.length_cons, leBytes_succ, leNat_cons]
    have h : (b.toNat + 256 * leNat bs) / 256 = leNat bs := by omega
    rw [h, ih]
    congr 1
    apply BitVec.eq_of_toNat_eq
    simp only [BitVec.toNat_ofNat]
    omega

theorem leNat_append (xs ys : List Byte) : leNat (xs ++ ys) = leNat xs + 256 ^ xs.length * leNat ys := by
  induction xs with
  | nil => simp
  | cons x xs ih => simp only [List.cons_append, leNat_cons, ih, List.length_cons, Nat.pow_succ]; ring

/-- Byte `i` of a value, the least significant first. -/
theorem getElem?_leBytes (n v i : Nat) (h : i < n) : (leBytes n v)[i]? = some (BitVec.ofNat 8 (v / 256 ^ i)) := by
  induction n generalizing v i with
  | zero => omega
  | succ n ih =>
    cases i with
    | zero => simp
    | succ i =>
      rw [leBytes_succ, List.getElem?_cons_succ, ih _ _ (by omega), Nat.div_div_eq_div_mul, Nat.pow_succ']

/-- The big-endian bytes of a value, read back, give its low `8n` bits (the round trip of R62 and R63). -/
theorem beNat_beBytes (n v : Nat) : beNat (beBytes n v) = v % 256 ^ n := by
  simp [beNat, beBytes, leNat_leBytes]

theorem beNat_lt (bs : List Byte) : beNat bs < 256 ^ bs.length := by
  simpa [beNat] using leNat_lt bs.reverse

theorem beBytes_beNat (bs : List Byte) : beBytes bs.length (beNat bs) = bs := by
  have h := leBytes_leNat bs.reverse
  rw [List.length_reverse] at h
  rw [beBytes, beNat, h, List.reverse_reverse]

/-- A 16-bit operand is the bytes it is encoded as. -/
theorem beBytes_word (x : Word) : beBytes 2 x.toNat = [BitVec.ofNat 8 (x.toNat / 256), BitVec.ofNat 8 x.toNat] := rfl

theorem toNat_beWord (hi lo : Byte) : (beWord hi lo).toNat = hi.toNat * 256 + lo.toNat := by
  have h := hi.isLt
  have h' := lo.isLt
  simp only [beWord, beNat, List.reverse_cons, List.reverse_nil, List.nil_append, List.cons_append, leNat_cons,
    leNat_nil, BitVec.toNat_ofNat]
  omega

@[simp] theorem beWord_bytes (x : Word) : beWord (BitVec.ofNat 8 (x.toNat / 256)) (BitVec.ofNat 8 x.toNat) = x := by
  apply BitVec.eq_of_toNat_eq
  have h := x.isLt
  simp only [toNat_beWord, BitVec.toNat_ofNat]
  omega

theorem beBytes_word32 (x : Word32) : beBytes 4 x.toNat =
    [BitVec.ofNat 8 (x.toNat / 256 / 256 / 256), BitVec.ofNat 8 (x.toNat / 256 / 256), BitVec.ofNat 8 (x.toNat / 256),
      BitVec.ofNat 8 x.toNat] := rfl

@[simp] theorem beWord32_bytes (x : Word32) :
    beWord32 (BitVec.ofNat 8 (x.toNat / 256 / 256 / 256)) (BitVec.ofNat 8 (x.toNat / 256 / 256))
      (BitVec.ofNat 8 (x.toNat / 256)) (BitVec.ofNat 8 x.toNat) = x := by
  apply BitVec.eq_of_toNat_eq
  have h := x.isLt
  simp only [beWord32, beNat, List.reverse_cons, List.reverse_nil, List.nil_append, List.cons_append, leNat_cons,
    leNat_nil, BitVec.toNat_ofNat]
  omega

/-- Encoding the operand a decode assembled gives the bytes back. -/
@[simp] theorem beBytes_beWord (hi lo : Byte) : beBytes 2 (beWord hi lo).toNat = [hi, lo] := by
  rw [toNat_beWord]
  have h := beBytes_beNat [hi, lo]
  have e : beNat [hi, lo] = hi.toNat * 256 + lo.toNat := by simp [beNat]; ring
  rwa [e] at h

@[simp] theorem beBytes_beWord32 (b3 b2 b1 b0 : Byte) : beBytes 4 (beWord32 b3 b2 b1 b0).toNat = [b3, b2, b1, b0] := by
  have h := beBytes_beNat [b3, b2, b1, b0]
  have hlt := beNat_lt [b3, b2, b1, b0]
  have e : (beWord32 b3 b2 b1 b0).toNat = beNat [b3, b2, b1, b0] := by
    rw [beWord32, BitVec.toNat_ofNat]
    exact Nat.mod_eq_of_lt (by simpa using hlt)
  rw [e]
  exact h

@[simp] theorem choiceOfByte_choiceToByte (c : Choice) : choiceOfByte (choiceToByte c) = some c := by
  cases c <;> rfl

/-- A byte is a choice exactly when it is 0 to 4 (R86). -/
theorem choiceOfByte_eq_none_iff (b : Byte) : choiceOfByte b = none ↔ 4 < b.toNat := by
  revert b; decide

theorem choiceToByte_of_choiceOfByte {b : Byte} {c : Choice} (h : choiceOfByte b = some c) : choiceToByte c = b := by
  revert h; revert c b; decide

theorem choiceToByte_toNat_le (c : Choice) : (choiceToByte c).toNat ≤ 4 := by cases c <;> decide

theorem fits16_iff (z : Int) : fits16 z = true ↔ -32768 ≤ z ∧ z ≤ 32767 := by simp [fits16]

/-- `wrap16(z)` is congruent to `z` modulo 2^16 (R7). -/
theorem wrap16_congr (z : Int) : (65536 : Int) ∣ (wrap16 z).toInt - z := by
  have h : (wrap16 z).toInt = z.bmod 65536 := by simp [wrap16, BitVec.toInt_ofInt]
  rw [h, Int.bmod_def]
  split <;> omega

/-- `wrap16` is the identity on the values that fit. -/
theorem toInt_wrap16_of_fits {z : Int} (h : fits16 z = true) : (wrap16 z).toInt = z := by
  have h' : (wrap16 z).toInt = z.bmod 65536 := by simp [wrap16, BitVec.toInt_ofInt]
  rw [fits16_iff] at h
  rw [h', Int.bmod_def]
  split <;> omega

theorem wrap16_toInt (w : Word) : wrap16 w.toInt = w := by simp [wrap16]

theorem isScalar_iff (u : Word32) :
    isScalar u = true ↔ u.toNat ≤ 0xD7FF ∨ (0xE000 ≤ u.toNat ∧ u.toNat ≤ 0x10FFFF) := by simp [isScalar]

end Sys2Proof
end

