-- ==== Sys2Proof/Laws/Decode.lean ====
section
/-! SUPPORT. The decoder row by row: what each format answers, and when a row exists. -/

namespace Sys2Proof

@[simp] theorem formatN_eq (i : Instr) (bs : List Byte) : formatN i bs = .ok i := rfl
@[simp] theorem formatB_cons (mk : Byte → Instr) (x : Byte) (bs : List Byte) : formatB mk (x :: bs) = .ok (mk x) := rfl
@[simp] theorem formatH_cons (mk : Word → Instr) (x y : Byte) (bs : List Byte) :
    formatH mk (x :: y :: bs) = .ok (mk (beWord x y)) := rfl
@[simp] theorem formatBB_cons (mk : Byte → Byte → Instr) (x y : Byte) (bs : List Byte) :
    formatBB mk (x :: y :: bs) = .ok (mk x y) := rfl
@[simp] theorem formatHB_cons (mk : Word → Byte → Instr) (x y z : Byte) (bs : List Byte) :
    formatHB mk (x :: y :: z :: bs) = .ok (mk (beWord x y) z) := rfl
@[simp] theorem formatW_cons (mk : Word32 → Instr) (x y z w : Byte) (bs : List Byte) :
    formatW mk (x :: y :: z :: w :: bs) = .ok (mk (beWord32 x y z w)) := rfl
@[simp] theorem formatHH_cons (mk : Word → Word → Instr) (x y z w : Byte) (bs : List Byte) :
    formatHH mk (x :: y :: z :: w :: bs) = .ok (mk (beWord x y) (beWord z w)) := rfl
@[simp] theorem formatBBH_cons (mk : Byte → Byte → Word → Instr) (x y z w : Byte) (bs : List Byte) :
    formatBBH mk (x :: y :: z :: w :: bs) = .ok (mk x y (beWord z w)) := rfl

theorem formatC_cons (mk : Choice → Instr) (x : Byte) (bs : List Byte) :
    formatC mk (x :: bs) = match choiceOfByte x with | some c => .ok (mk c) | none => .error (.invalidChoice x) := rfl

@[simp] theorem formatC_choiceToByte (mk : Choice → Instr) (c : Choice) (bs : List Byte) :
    formatC mk (choiceToByte c :: bs) = .ok (mk c) := by simp [formatC_cons]

theorem formatV37_append (mk : List Byte → Instr) (v bs : List Byte) (h : v.length = 37) :
    formatV37 mk (v ++ bs) = .ok (mk v) := by
  rw [formatV37, if_pos (by simp [h]), ← h, List.take_left]

@[simp] theorem decode_cons (op : Byte) (bs : List Byte) : decode (op :: bs) = decodeRow op bs := rfl

/-! The rows of R90, one lemma each: the dispatch on a literal opcode byte. -/

@[simp] theorem decodeRow_nop (bs : List Byte) : decodeRow 0x00#8 bs = formatN .nop bs := rfl
@[simp] theorem decodeRow_doom (bs : List Byte) : decodeRow 0x01#8 bs = formatN .doom bs := rfl
@[simp] theorem decodeRow_concl (bs : List Byte) : decodeRow 0x02#8 bs = formatN .concl bs := rfl
@[simp] theorem decodeRow_clf (bs : List Byte) : decodeRow 0x03#8 bs = formatN .clf bs := rfl
@[simp] theorem decodeRow_tgf (bs : List Byte) : decodeRow 0x04#8 bs = formatN .tgf bs := rfl
@[simp] theorem decodeRow_setdp (bs : List Byte) : decodeRow 0x05#8 bs = formatH .setdp bs := rfl
@[simp] theorem decodeRow_add (bs : List Byte) : decodeRow 0x06#8 bs = formatN .add bs := rfl
@[simp] theorem decodeRow_sub (bs : List Byte) : decodeRow 0x07#8 bs = formatN .sub bs := rfl
@[simp] theorem decodeRow_mul (bs : List Byte) : decodeRow 0x08#8 bs = formatN .mul bs := rfl
@[simp] theorem decodeRow_div (bs : List Byte) : decodeRow 0x09#8 bs = formatN .div bs := rfl
@[simp] theorem decodeRow_mod (bs : List Byte) : decodeRow 0x0A#8 bs = formatN .mod bs := rfl
@[simp] theorem decodeRow_not (bs : List Byte) : decodeRow 0x0B#8 bs = formatN .not bs := rfl
@[simp] theorem decodeRow_and (bs : List Byte) : decodeRow 0x0C#8 bs = formatN .and bs := rfl
@[simp] theorem decodeRow_or (bs : List Byte) : decodeRow 0x0D#8 bs = formatN .or bs := rfl
@[simp] theorem decodeRow_xor (bs : List Byte) : decodeRow 0x0E#8 bs = formatN .xor bs := rfl
@[simp] theorem decodeRow_cmp (bs : List Byte) : decodeRow 0x0F#8 bs = formatN .cmp bs := rfl
@[simp] theorem decodeRow_ldai (bs : List Byte) : decodeRow 0x10#8 bs = formatB .ldai bs := rfl
@[simp] theorem decodeRow_ldam (bs : List Byte) : decodeRow 0x11#8 bs = formatH .ldam bs := rfl
@[simp] theorem decodeRow_stam (bs : List Byte) : decodeRow 0x12#8 bs = formatH .stam bs := rfl
@[simp] theorem decodeRow_ldbi (bs : List Byte) : decodeRow 0x13#8 bs = formatH .ldbi bs := rfl
@[simp] theorem decodeRow_ldbm (bs : List Byte) : decodeRow 0x14#8 bs = formatH .ldbm bs := rfl
@[simp] theorem decodeRow_stbm (bs : List Byte) : decodeRow 0x15#8 bs = formatH .stbm bs := rfl
@[simp] theorem decodeRow_ldli (bs : List Byte) : decodeRow 0x16#8 bs = formatH .ldli bs := rfl
@[simp] theorem decodeRow_ldlm (bs : List Byte) : decodeRow 0x17#8 bs = formatH .ldlm bs := rfl
@[simp] theorem decodeRow_stlm (bs : List Byte) : decodeRow 0x18#8 bs = formatH .stlm bs := rfl
@[simp] theorem decodeRow_ldnumi (bs : List Byte) : decodeRow 0x19#8 bs = formatW .ldnumi bs := rfl
@[simp] theorem decodeRow_salloc (bs : List Byte) : decodeRow 0x1A#8 bs = formatH .salloc bs := rfl
@[simp] theorem decodeRow_sdealloc (bs : List Byte) : decodeRow 0x1B#8 bs = formatH .sdealloc bs := rfl
@[simp] theorem decodeRow_pushi (bs : List Byte) : decodeRow 0x1C#8 bs = formatB .pushi bs := rfl
@[simp] theorem decodeRow_pushw (bs : List Byte) : decodeRow 0x1D#8 bs = formatH .pushw bs := rfl
@[simp] theorem decodeRow_pushm (bs : List Byte) : decodeRow 0x1E#8 bs = formatH .pushm bs := rfl
@[simp] theorem decodeRow_popm (bs : List Byte) : decodeRow 0x1F#8 bs = formatH .popm bs := rfl
@[simp] theorem decodeRow_pusha (bs : List Byte) : decodeRow 0x20#8 bs = formatN .pusha bs := rfl
@[simp] theorem decodeRow_popa (bs : List Byte) : decodeRow 0x21#8 bs = formatN .popa bs := rfl
@[simp] theorem decodeRow_pushb (bs : List Byte) : decodeRow 0x22#8 bs = formatN .pushb bs := rfl
@[simp] theorem decodeRow_popb (bs : List Byte) : decodeRow 0x23#8 bs = formatN .popb bs := rfl
@[simp] theorem decodeRow_pushl (bs : List Byte) : decodeRow 0x24#8 bs = formatN .pushl bs := rfl
@[simp] theorem decodeRow_popl (bs : List Byte) : decodeRow 0x25#8 bs = formatN .popl bs := rfl
@[simp] theorem decodeRow_pushf (bs : List Byte) : decodeRow 0x26#8 bs = formatN .pushf bs := rfl
@[simp] theorem decodeRow_popf (bs : List Byte) : decodeRow 0x27#8 bs = formatN .popf bs := rfl
@[simp] theorem decodeRow_pushch (bs : List Byte) : decodeRow 0x28#8 bs = formatN .pushch bs := rfl
@[simp] theorem decodeRow_popch (bs : List Byte) : decodeRow 0x29#8 bs = formatN .popch bs := rfl
@[simp] theorem decodeRow_pushnum (bs : List Byte) : decodeRow 0x2A#8 bs = formatN .pushnum bs := rfl
@[simp] theorem decodeRow_popnum (bs : List Byte) : decodeRow 0x2B#8 bs = formatN .popnum bs := rfl
@[simp] theorem decodeRow_pushs (bs : List Byte) : decodeRow 0x2C#8 bs = formatN .pushs bs := rfl
@[simp] theorem decodeRow_pep (bs : List Byte) : decodeRow 0x2D#8 bs = formatN .pep bs := rfl
@[simp] theorem decodeRow_pepz (bs : List Byte) : decodeRow 0x2E#8 bs = formatN .pepz bs := rfl
@[simp] theorem decodeRow_pepp (bs : List Byte) : decodeRow 0x2F#8 bs = formatN .pepp bs := rfl
@[simp] theorem decodeRow_pepn (bs : List Byte) : decodeRow 0x30#8 bs = formatN .pepn bs := rfl
@[simp] theorem decodeRow_pepf (bs : List Byte) : decodeRow 0x31#8 bs = formatN .pepf bs := rfl
@[simp] theorem decodeRow_pepaz (bs : List Byte) : decodeRow 0x32#8 bs = formatN .pepaz bs := rfl
@[simp] theorem decodeRow_pepd (bs : List Byte) : decodeRow 0x33#8 bs = formatN .pepd bs := rfl
@[simp] theorem decodeRow_rclr (bs : List Byte) : decodeRow 0x34#8 bs = formatN .rclr bs := rfl
@[simp] theorem decodeRow_rldi (bs : List Byte) : decodeRow 0x35#8 bs = formatV37 .rldi bs := rfl
@[simp] theorem decodeRow_rldm (bs : List Byte) : decodeRow 0x36#8 bs = formatH .rldm bs := rfl
@[simp] theorem decodeRow_rstm (bs : List Byte) : decodeRow 0x37#8 bs = formatH .rstm bs := rfl
@[simp] theorem decodeRow_rget (bs : List Byte) : decodeRow 0x38#8 bs = formatB .rget bs := rfl
@[simp] theorem decodeRow_rset (bs : List Byte) : decodeRow 0x39#8 bs = formatB .rset bs := rfl
@[simp] theorem decodeRow_rseti (bs : List Byte) : decodeRow 0x3A#8 bs = formatBB .rseti bs := rfl
@[simp] theorem decodeRow_rcpm (bs : List Byte) : decodeRow 0x3B#8 bs = formatBBH .rcpm bs := rfl
@[simp] theorem decodeRow_sclr (bs : List Byte) : decodeRow 0x3C#8 bs = formatN .sclr bs := rfl
@[simp] theorem decodeRow_sldm (bs : List Byte) : decodeRow 0x3D#8 bs = formatH .sldm bs := rfl
@[simp] theorem decodeRow_sstm (bs : List Byte) : decodeRow 0x3E#8 bs = formatH .sstm bs := rfl
@[simp] theorem decodeRow_sapp (bs : List Byte) : decodeRow 0x3F#8 bs = formatN .sapp bs := rfl
@[simp] theorem decodeRow_sappm (bs : List Byte) : decodeRow 0x40#8 bs = formatHB .sappm bs := rfl
@[simp] theorem decodeRow_sget (bs : List Byte) : decodeRow 0x41#8 bs = formatB .sget bs := rfl
@[simp] theorem decodeRow_sset (bs : List Byte) : decodeRow 0x42#8 bs = formatB .sset bs := rfl
@[simp] theorem decodeRow_slen (bs : List Byte) : decodeRow 0x43#8 bs = formatN .slen bs := rfl
@[simp] theorem decodeRow_chset (bs : List Byte) : decodeRow 0x44#8 bs = formatC .chset bs := rfl
@[simp] theorem decodeRow_chgeta (bs : List Byte) : decodeRow 0x45#8 bs = formatN .chgeta bs := rfl
@[simp] theorem decodeRow_cntinc (bs : List Byte) : decodeRow 0x46#8 bs = formatN .cntinc bs := rfl
@[simp] theorem decodeRow_cntdec (bs : List Byte) : decodeRow 0x47#8 bs = formatN .cntdec bs := rfl
@[simp] theorem decodeRow_pushcnt (bs : List Byte) : decodeRow 0x48#8 bs = formatN .pushcnt bs := rfl
@[simp] theorem decodeRow_latset (bs : List Byte) : decodeRow 0x49#8 bs = formatN .latset bs := rfl
@[simp] theorem decodeRow_latclr (bs : List Byte) : decodeRow 0x4A#8 bs = formatN .latclr bs := rfl
@[simp] theorem decodeRow_getch (bs : List Byte) : decodeRow 0x4B#8 bs = formatN .getch bs := rfl
@[simp] theorem decodeRow_getln (bs : List Byte) : decodeRow 0x4C#8 bs = formatN .getln bs := rfl
@[simp] theorem decodeRow_wrch (bs : List Byte) : decodeRow 0x4D#8 bs = formatN .wrch bs := rfl
@[simp] theorem decodeRow_wrlns (bs : List Byte) : decodeRow 0x4E#8 bs = formatN .wrlns bs := rfl
@[simp] theorem decodeRow_wrlnm (bs : List Byte) : decodeRow 0x4F#8 bs = formatH .wrlnm bs := rfl
@[simp] theorem decodeRow_tgdbg (bs : List Byte) : decodeRow 0x50#8 bs = formatN .tgdbg bs := rfl
@[simp] theorem decodeRow_dbgst (bs : List Byte) : decodeRow 0x51#8 bs = formatN .dbgst bs := rfl
@[simp] theorem decodeRow_dbgstc (bs : List Byte) : decodeRow 0x52#8 bs = formatN .dbgstc bs := rfl
@[simp] theorem decodeRow_dbgmem (bs : List Byte) : decodeRow 0x53#8 bs = formatHH .dbgmem bs := rfl
@[simp] theorem decodeRow_dbgstk (bs : List Byte) : decodeRow 0x54#8 bs = formatHH .dbgstk bs := rfl

/-- A byte above 0x54 has no row (R85). -/
theorem decodeRow_invalid {op : Byte} (h : 0x54 < op.toNat) (bs : List Byte) :
    decodeRow op bs = .error (.invalidOpcode op) := by
  unfold decodeRow
  split <;> first | omega | rfl

/-- With a whole instruction's bytes at hand, a row answers an instruction or refuses CHSET's operand (R83 to R87). -/
theorem decodeRow_valid {op : Byte} (h : op.toNat ≤ 0x54) (bs : List Byte) (hbs : 37 ≤ bs.length) :
    (∃ i, decodeRow op bs = .ok i) ∨
      (op = 0x44 ∧ ∃ x rest, bs = x :: rest ∧ 4 < x.toNat ∧ decodeRow op bs = .error (.invalidChoice x)) := by
  match bs, hbs with
  | x :: y :: z :: w :: rest, hbs =>
    obtain ⟨n, hn⟩ : ∃ n, n = op.toNat := ⟨_, rfl⟩
    obtain rfl : op = BitVec.ofNat 8 n := by simp [hn]
    have hn' : n ≤ 0x54 := hn ▸ h
    clear hn h
    interval_cases n <;> first
      | exact .inl ⟨_, rfl⟩
      | exact .inl ⟨_, if_pos hbs⟩
      | (rcases hc : choiceOfByte x with _ | c
         · refine .inr ⟨rfl, x, _, rfl, (choiceOfByte_eq_none_iff x).mp hc, ?_⟩
           change formatC .chset (x :: y :: z :: w :: rest) = _
           rw [formatC_cons, hc]
         · refine .inl ⟨.chset c, ?_⟩
           change formatC .chset (x :: y :: z :: w :: rest) = _
           rw [formatC_cons, hc])

end Sys2Proof
end

