-- ==== Sys2Proof/Laws/Memory.lean ====
section
/-! SUPPORT. Memory: what each operation of Machine/Ops.lean does to the bytes read back, and that each keeps the
canonical form. -/

namespace Sys2Proof.Machine

/-! ### One byte -/

@[simp] theorem Memory.byteAt_nil (k : Nat) : Memory.byteAt [] k = 0 := rfl

theorem Memory.byteAt_cons (c : Host.Cell) (m : Memory) (k : Nat) :
    Memory.byteAt (c :: m) k = if c.1 = k then c.2 else Memory.byteAt m k := rfl

theorem Memory.byteAt_insert (c : Host.Cell) (m : Memory) (k : Nat) (h : ∀ d ∈ m, d.1 ≠ c.1) :
    Memory.byteAt (Memory.insert c m) k = if c.1 = k then c.2 else Memory.byteAt m k := by
  induction m with
  | nil => rfl
  | cons d m ih =>
    have hd := h d (by simp)
    have hm := ih (fun e he => h e (by simp [he]))
    rw [Memory.insert]
    split
    · rfl
    · rw [Memory.byteAt_cons, hm, Memory.byteAt_cons]
      by_cases hk : c.1 = k
      · simp only [hk, if_true]
        rw [if_neg (hk ▸ hd)]
      · simp only [hk, if_false]

theorem Memory.byteAt_filter (m : Memory) (k j : Nat) :
    Memory.byteAt (m.filter (fun c => c.1 != k)) j = if k = j then 0 else Memory.byteAt m j := by
  induction m with
  | nil => simp
  | cons d m ih =>
    rw [List.filter_cons]
    by_cases hd : d.1 = k
    · simp only [hd, bne_self_eq_false, Bool.false_eq_true, if_false, ih, Memory.byteAt_cons]
      split <;> rfl
    · have : (d.1 != k) = true := by simpa using hd
      simp only [this, if_true, Memory.byteAt_cons, ih]
      by_cases hj : d.1 = j
      · simp only [hj, if_true]
        rw [if_neg (fun e => hd (hj.trans e.symm))]
      · simp only [hj, if_false]

theorem Memory.byteAt_put (m : Memory) (k : Nat) (v : Byte) (j : Nat) :
    (m.put k v).byteAt j = if k = j then v else m.byteAt j := by
  unfold Memory.put
  split
  · rename_i hv
    rw [Memory.byteAt_filter, hv]
  · rw [Memory.byteAt_insert _ _ _ (by simp), Memory.byteAt_filter]
    by_cases hk : k = j <;> simp [hk]

/-- A write is read back where it was made, and leaves every other byte alone. -/
theorem Memory.read_write (m : Memory) (a x : Word) (v : Byte) :
    (m.write a v).read x = if x = a then v else m.read x := by
  unfold Memory.read Memory.write
  rw [Memory.byteAt_put]
  by_cases h : x = a
  · simp [h]
  · have : a.toNat ≠ x.toNat := fun e => h (BitVec.eq_of_toNat_eq e.symm)
    simp [h, this]

@[simp] theorem Memory.read_write_self (m : Memory) (a : Word) (v : Byte) : (m.write a v).read a = v := by
  simp [Memory.read_write]

@[simp] theorem Memory.read_nil (a : Word) : Memory.read [] a = 0 := rfl

/-! ### The canonical form -/

theorem Memory.wf_nil : Memory.wf [] := by simp [Memory.wf]

theorem Memory.wf_filter {m : Memory} (h : m.wf) (p : Host.Cell → Bool) : Memory.wf (m.filter p) :=
  ⟨h.1.filter p, fun q hq => h.2 q (List.mem_of_mem_filter hq)⟩

theorem Memory.mem_insert {c d : Host.Cell} {m : Memory} : d ∈ Memory.insert c m ↔ d = c ∨ d ∈ m := by
  induction m with
  | nil => simp [Memory.insert]
  | cons e m ih =>
    rw [Memory.insert]
    split
    · simp
    · simp only [List.mem_cons, ih]; tauto

theorem Memory.wf_insert {m : Memory} (h : m.wf) (c : Host.Cell) (hc : c.1 < 65536 ∧ c.2 ≠ 0)
    (hne : ∀ d ∈ m, d.1 ≠ c.1) : Memory.wf (Memory.insert c m) := by
  refine ⟨?_, fun q hq => ?_⟩
  · have hs := h.1
    clear h
    induction m with
    | nil => simp [Memory.insert]
    | cons d m ih =>
      rw [List.pairwise_cons] at hs
      have hd := hne d (by simp)
      rw [Memory.insert]
      split
      · rename_i hlt
        refine List.pairwise_cons.mpr ⟨fun q hq => ?_, List.pairwise_cons.mpr hs⟩
        rcases List.mem_cons.mp hq with rfl | hq
        · exact hlt
        · exact lt_trans hlt (hs.1 q hq)
      · rename_i hlt
        refine List.pairwise_cons.mpr ⟨fun q hq => ?_, ih (fun e he => hne e (by simp [he])) hs.2⟩
        rcases Memory.mem_insert.mp hq with rfl | hq
        · omega
        · exact hs.1 q hq
  · rcases Memory.mem_insert.mp hq with rfl | hq
    · exact hc
    · exact h.2 q hq

/-- A write keeps the canonical form. -/
theorem Memory.wf_write {m : Memory} (h : m.wf) (a : Word) (v : Byte) : (m.write a v).wf := by
  unfold Memory.write Memory.put
  split
  · exact Memory.wf_filter h _
  · rename_i hv
    exact Memory.wf_insert (Memory.wf_filter h _) _ ⟨a.isLt, hv⟩ (by simp)

theorem Memory.wf_memWriteBytes {m : Memory} (h : m.wf) (a : Word) (bs : List Byte) : (memWriteBytes m a bs).wf := by
  induction bs generalizing m a with
  | nil => exact h
  | cons b bs ih => exact ih (Memory.wf_write h a b) _

theorem Memory.wf_memWrite {m : Memory} (h : m.wf) (a : Word) (n v : Nat) : (memWrite m a n v).wf :=
  Memory.wf_memWriteBytes h a _

theorem Memory.byteAt_eq_zero_of_lt {m : Memory} {k : Nat} (h : ∀ d ∈ m, k < d.1) : m.byteAt k = 0 := by
  induction m with
  | nil => rfl
  | cons d m ih =>
    have hd := h d (by simp)
    rw [Memory.byteAt_cons, if_neg (by omega)]
    exact ih (fun e he => h e (by simp [he]))

/-- In canonical form, memories that read the same everywhere are equal. -/
theorem Memory.ext_of_wf {m m' : Memory} (h : m.wf) (h' : m'.wf) (e : ∀ a : Word, m.read a = m'.read a) : m = m' := by
  have e' : ∀ k < 65536, m.byteAt k = m'.byteAt k := fun k hk => by
    have := e (BitVec.ofNat 16 k)
    simpa [Memory.read, Nat.mod_eq_of_lt hk] using this
  clear e
  induction m generalizing m' with
  | nil =>
    cases m' with
    | nil => rfl
    | cons d m' =>
      have hd := h'.2 d (by simp)
      have := e' d.1 hd.1
      rw [Memory.byteAt_nil, Memory.byteAt_cons, if_pos rfl] at this
      exact absurd this.symm hd.2
  | cons c m ih =>
    have hc := h.2 c (by simp)
    have hs := List.pairwise_cons.mp h.1
    cases m' with
    | nil =>
      have := e' c.1 hc.1
      rw [Memory.byteAt_nil, Memory.byteAt_cons, if_pos rfl] at this
      exact absurd this hc.2
    | cons d m' =>
      have hd := h'.2 d (by simp)
      have hs' := List.pairwise_cons.mp h'.1
      have key : c.1 = d.1 := by
        rcases lt_trichotomy c.1 d.1 with hlt | heq | hgt
        · have := e' c.1 hc.1
          rw [Memory.byteAt_cons, if_pos rfl, Memory.byteAt_cons, if_neg (by omega),
            Memory.byteAt_eq_zero_of_lt (fun q hq => lt_trans hlt (hs'.1 q hq))] at this
          exact absurd this hc.2
        · exact heq
        · have := e' d.1 hd.1
          rw [Memory.byteAt_cons, if_neg (by omega), Memory.byteAt_cons, if_pos rfl,
            Memory.byteAt_eq_zero_of_lt (fun q hq => lt_trans hgt (hs.1 q hq))] at this
          exact absurd this.symm hd.2
      have hv : c.2 = d.2 := by
        have := e' c.1 hc.1
        rwa [Memory.byteAt_cons, if_pos rfl, Memory.byteAt_cons, if_pos key.symm] at this
      have hcd : c = d := Prod.ext key hv
      subst hcd
      congr 1
      refine ih ⟨hs.2, fun q hq => h.2 q (by simp [hq])⟩ ⟨hs'.2, fun q hq => h'.2 q (by simp [hq])⟩ fun k hk => ?_
      by_cases hck : c.1 = k
      · subst hck
        rw [Memory.byteAt_eq_zero_of_lt hs.1, Memory.byteAt_eq_zero_of_lt hs'.1]
      · have := e' k hk
        rwa [Memory.byteAt_cons, if_neg hck, Memory.byteAt_cons, if_neg hck] at this

/-! ### Sequences of bytes -/

@[simp] theorem memBytes_zero (m : Memory) (a : Word) : memBytes m a 0 = [] := rfl
theorem memBytes_succ (m : Memory) (a : Word) (n : Nat) : memBytes m a (n + 1) = m.read a :: memBytes m (a + 1) n := rfl
@[simp] theorem memWriteBytes_nil (m : Memory) (a : Word) : memWriteBytes m a [] = m := rfl
theorem memWriteBytes_cons (m : Memory) (a : Word) (b : Byte) (bs : List Byte) :
    memWriteBytes m a (b :: bs) = memWriteBytes (m.write a b) (a + 1) bs := rfl

@[simp] theorem length_memBytes (m : Memory) (a : Word) (n : Nat) : (memBytes m a n).length = n := by
  induction n generalizing a with
  | zero => rfl
  | succ n ih => simp [memBytes_succ, ih]

theorem toNat_one_word : (1 : Word).toNat = 1 := rfl

theorem word_add_succ (a : Word) (i : Nat) : a + 1 + BitVec.ofNat 16 i = a + BitVec.ofNat 16 (i + 1) := by
  apply BitVec.eq_of_toNat_eq
  simp only [BitVec.toNat_add, BitVec.toNat_ofNat, toNat_one_word]
  omega

/-- Byte `i` of `MemBytes(a, n)` is `MEM[a +16 i]` (R62). -/
theorem getElem?_memBytes (m : Memory) (a : Word) (n i : Nat) :
    (memBytes m a n)[i]? = if i < n then some (m.read (a + BitVec.ofNat 16 i)) else none := by
  induction n generalizing a i with
  | zero => simp
  | succ n ih =>
    cases i with
    | zero => simp [memBytes_succ]
    | succ i =>
      rw [memBytes_succ, List.getElem?_cons_succ, ih, word_add_succ]
      simp

theorem memBytes_eq_map (m : Memory) (a : Word) (n : Nat) :
    memBytes m a n = (List.range n).map fun i => m.read (a + BitVec.ofNat 16 i) := by
  apply List.ext_getElem?
  intro i
  rw [getElem?_memBytes]
  by_cases h : i < n <;> simp [h]

/-- A shorter read is a prefix of a longer one. -/
theorem take_memBytes (m : Memory) (a : Word) {k n : Nat} (h : k ≤ n) : (memBytes m a n).take k = memBytes m a k := by
  apply List.ext_getElem?
  intro i
  rw [List.getElem?_take, getElem?_memBytes, getElem?_memBytes]
  by_cases hi : i < k
  · simp [hi, lt_of_lt_of_le hi h]
  · simp [hi]

theorem toNat_sub_word (x a : Word) : (x - a).toNat = (65536 - a.toNat + x.toNat) % 65536 := by
  rw [BitVec.toNat_sub]

/-- Every byte after a write of a sequence (R63): the sequence's own where it reaches, the old one elsewhere. -/
theorem read_memWriteBytes (m : Memory) (a x : Word) (bs : List Byte) (h : bs.length ≤ 65536) :
    (memWriteBytes m a bs).read x = (bs[(x - a).toNat]?).getD (m.read x) := by
  induction bs generalizing m a with
  | nil => simp
  | cons b bs ih =>
    have hx := x.isLt
    have ha := a.isLt
    simp only [List.length_cons] at h
    rw [memWriteBytes_cons, ih _ _ (by omega), Memory.read_write]
    by_cases e : x = a
    · subst e
      have h1 : (x - (x + 1)).toNat = 65535 := by simp only [toNat_sub_word, BitVec.toNat_add, toNat_one_word]; omega
      have h2 : bs[65535]? = none := List.getElem?_eq_none (by omega)
      rw [h1, h2, if_pos rfl]
      simp
    · have e' : x.toNat ≠ a.toNat := fun h => e (BitVec.eq_of_toNat_eq h)
      have h1 : (x - a).toNat = (x - (a + 1)).toNat + 1 := by
        simp only [toNat_sub_word, BitVec.toNat_add, toNat_one_word]; omega
      rw [h1, List.getElem?_cons_succ, if_neg e]

theorem toNat_add_sub_self (a : Word) (i : Nat) : (a + BitVec.ofNat 16 i - a).toNat = i % 65536 := by
  have ha := a.isLt
  simp only [toNat_sub_word, BitVec.toNat_add, BitVec.toNat_ofNat]
  omega

/-- What was written is read back. -/
theorem memBytes_memWriteBytes (m : Memory) (a : Word) (bs : List Byte) (h : bs.length ≤ 65536) :
    memBytes (memWriteBytes m a bs) a bs.length = bs := by
  apply List.ext_getElem?
  intro i
  rw [getElem?_memBytes]
  by_cases hi : i < bs.length
  · rw [if_pos hi, read_memWriteBytes _ _ _ _ h, toNat_add_sub_self, Nat.mod_eq_of_lt (by omega)]
    simp [hi]
  · simp [hi]

/-- Writing the bytes that are there changes nothing. -/
theorem memWriteBytes_memBytes {m : Memory} (h : m.wf) (a : Word) {n : Nat} (hn : n ≤ 65536) :
    memWriteBytes m a (memBytes m a n) = m := by
  refine Memory.ext_of_wf (Memory.wf_memWriteBytes h _ _) h fun x => ?_
  have hx := x.isLt
  have ha := a.isLt
  rw [read_memWriteBytes _ _ _ _ (by simpa using hn), getElem?_memBytes]
  split
  · have : a + BitVec.ofNat 16 (x - a).toNat = x := by
      apply BitVec.eq_of_toNat_eq
      simp only [BitVec.toNat_add, BitVec.toNat_ofNat, toNat_sub_word]
      omega
    rw [this]
    rfl
  · rfl

theorem memRead_one (m : Memory) (a : Word) : memRead m a 1 = (m.read a).toNat := by
  simp [memRead, memBytes_succ, beNat]

theorem memRead_two (m : Memory) (a : Word) : memRead m a 2 = (m.read a).toNat * 256 + (m.read (a + 1)).toNat := by
  simp [memRead, memBytes_succ, beNat]
  ring

/-! ### The scan for a zero byte -/

/-- The scan finds the least zero byte below the bound. -/
theorem firstZero_eq_some_iff (m : Memory) (a : Word) (bound k : Nat) :
    firstZero m a bound = some k ↔
      k < bound ∧ m.read (a + BitVec.ofNat 16 k) = 0 ∧ ∀ j < k, m.read (a + BitVec.ofNat 16 j) ≠ 0 := by
  induction bound generalizing a k with
  | zero => simp [firstZero]
  | succ n ih =>
    rw [firstZero]
    split
    · rename_i h0
      constructor
      · intro h
        obtain rfl : 0 = k := by simpa using h
        simpa using h0
      · rintro ⟨-, -, hj⟩
        cases k with
        | zero => rfl
        | succ k => exact absurd (by simpa using h0) (hj 0 (by omega))
    · rename_i h0
      cases k with
      | zero =>
        constructor
        · intro h
          simp at h
        · rintro ⟨-, h, -⟩
          exact absurd (by simpa using h) h0
      | succ k =>
        have hm : (firstZero m (a + 1) n).map (· + 1) = some (k + 1) ↔ firstZero m (a + 1) n = some k := by
          cases firstZero m (a + 1) n <;> simp
        rw [hm, ih, word_add_succ]
        constructor
        · rintro ⟨h1, h2, h3⟩
          refine ⟨by omega, h2, fun j hj => ?_⟩
          cases j with
          | zero => simpa using h0
          | succ j => rw [← word_add_succ]; exact h3 j (by omega)
        · rintro ⟨h1, h2, h3⟩
          refine ⟨by omega, h2, fun j hj => ?_⟩
          rw [word_add_succ]
          exact h3 (j + 1) (by omega)

/-- The scan finds nothing exactly when no byte below the bound is zero. -/
theorem firstZero_eq_none_iff (m : Memory) (a : Word) (bound : Nat) :
    firstZero m a bound = none ↔ ∀ j < bound, m.read (a + BitVec.ofNat 16 j) ≠ 0 := by
  induction bound generalizing a with
  | zero => simp [firstZero]
  | succ n ih =>
    rw [firstZero]
    split
    · rename_i h0
      constructor
      · intro h; cases h
      · intro h; exact absurd (by simpa using h0) (h 0 (by omega))
    · rename_i h0
      rw [Option.map_eq_none_iff, ih]
      constructor
      · intro h j hj
        cases j with
        | zero => simpa using h0
        | succ j => rw [← word_add_succ]; exact h j (by omega)
      · intro h j hj
        rw [word_add_succ]
        exact h (j + 1) (by omega)

end Sys2Proof.Machine
end

