-- ==== Sys2Proof/Laws/State.lean ====
section
/-! SUPPORT. One lemma per field per write of Machine/Registers.lean, true by rfl: what the write leaves in each field. -/

namespace Sys2Proof.Machine

section
variable (s : State) (v : Byte)
@[simp] theorem setA_a : (s.setA v).a = v := rfl
@[simp] theorem setA_b : (s.setA v).b = s.b := rfl
@[simp] theorem setA_l : (s.setA v).l = s.l := rfl
@[simp] theorem setA_ep : (s.setA v).ep = s.ep := rfl
@[simp] theorem setA_dp : (s.setA v).dp = s.dp := rfl
@[simp] theorem setA_f : (s.setA v).f = s.f := rfl
@[simp] theorem setA_ch : (s.setA v).ch = s.ch := rfl
@[simp] theorem setA_num : (s.setA v).num = s.num := rfl
@[simp] theorem setA_r : (s.setA v).r = s.r := rfl
@[simp] theorem setA_str : (s.setA v).str = s.str := rfl
@[simp] theorem setA_stk : (s.setA v).stk = s.stk := rfl
@[simp] theorem setA_mem : (s.setA v).mem = s.mem := rfl
@[simp] theorem setA_flag : (s.setA v).flag = s.flag := rfl
@[simp] theorem setA_dbg : (s.setA v).dbg = s.dbg := rfl
@[simp] theorem setA_halted : (s.setA v).halted = s.halted := rfl
@[simp] theorem setA_fault : (s.setA v).fault = s.fault := rfl
@[simp] theorem setA_choice : (s.setA v).choice = s.choice := rfl
@[simp] theorem setA_cnt : (s.setA v).cnt = s.cnt := rfl
@[simp] theorem setA_doom : (s.setA v).doom = s.doom := rfl
@[simp] theorem setA_latch : (s.setA v).latch = s.latch := rfl
@[simp] theorem setA_cfg : (s.setA v).cfg = s.cfg := rfl
@[simp] theorem setA_trace : (s.setA v).trace = s.trace := rfl
@[simp] theorem setA_keys : (s.setA v).keys = s.keys := rfl
@[simp] theorem setA_lines : (s.setA v).lines = s.lines := rfl
@[simp] theorem setA_lineReqs : (s.setA v).lineReqs = s.lineReqs := rfl
end

section
variable (s : State) (v : Word)
@[simp] theorem setB_a : (s.setB v).a = s.a := rfl
@[simp] theorem setB_b : (s.setB v).b = v := rfl
@[simp] theorem setB_l : (s.setB v).l = s.l := rfl
@[simp] theorem setB_ep : (s.setB v).ep = s.ep := rfl
@[simp] theorem setB_dp : (s.setB v).dp = s.dp := rfl
@[simp] theorem setB_f : (s.setB v).f = s.f := rfl
@[simp] theorem setB_ch : (s.setB v).ch = s.ch := rfl
@[simp] theorem setB_num : (s.setB v).num = s.num := rfl
@[simp] theorem setB_r : (s.setB v).r = s.r := rfl
@[simp] theorem setB_str : (s.setB v).str = s.str := rfl
@[simp] theorem setB_stk : (s.setB v).stk = s.stk := rfl
@[simp] theorem setB_mem : (s.setB v).mem = s.mem := rfl
@[simp] theorem setB_flag : (s.setB v).flag = s.flag := rfl
@[simp] theorem setB_dbg : (s.setB v).dbg = s.dbg := rfl
@[simp] theorem setB_halted : (s.setB v).halted = s.halted := rfl
@[simp] theorem setB_fault : (s.setB v).fault = s.fault := rfl
@[simp] theorem setB_choice : (s.setB v).choice = s.choice := rfl
@[simp] theorem setB_cnt : (s.setB v).cnt = s.cnt := rfl
@[simp] theorem setB_doom : (s.setB v).doom = s.doom := rfl
@[simp] theorem setB_latch : (s.setB v).latch = s.latch := rfl
@[simp] theorem setB_cfg : (s.setB v).cfg = s.cfg := rfl
@[simp] theorem setB_trace : (s.setB v).trace = s.trace := rfl
@[simp] theorem setB_keys : (s.setB v).keys = s.keys := rfl
@[simp] theorem setB_lines : (s.setB v).lines = s.lines := rfl
@[simp] theorem setB_lineReqs : (s.setB v).lineReqs = s.lineReqs := rfl
end

section
variable (s : State) (v : Word)
@[simp] theorem setL_a : (s.setL v).a = s.a := rfl
@[simp] theorem setL_b : (s.setL v).b = s.b := rfl
@[simp] theorem setL_l : (s.setL v).l = v := rfl
@[simp] theorem setL_ep : (s.setL v).ep = s.ep := rfl
@[simp] theorem setL_dp : (s.setL v).dp = s.dp := rfl
@[simp] theorem setL_f : (s.setL v).f = s.f := rfl
@[simp] theorem setL_ch : (s.setL v).ch = s.ch := rfl
@[simp] theorem setL_num : (s.setL v).num = s.num := rfl
@[simp] theorem setL_r : (s.setL v).r = s.r := rfl
@[simp] theorem setL_str : (s.setL v).str = s.str := rfl
@[simp] theorem setL_stk : (s.setL v).stk = s.stk := rfl
@[simp] theorem setL_mem : (s.setL v).mem = s.mem := rfl
@[simp] theorem setL_flag : (s.setL v).flag = s.flag := rfl
@[simp] theorem setL_dbg : (s.setL v).dbg = s.dbg := rfl
@[simp] theorem setL_halted : (s.setL v).halted = s.halted := rfl
@[simp] theorem setL_fault : (s.setL v).fault = s.fault := rfl
@[simp] theorem setL_choice : (s.setL v).choice = s.choice := rfl
@[simp] theorem setL_cnt : (s.setL v).cnt = s.cnt := rfl
@[simp] theorem setL_doom : (s.setL v).doom = s.doom := rfl
@[simp] theorem setL_latch : (s.setL v).latch = s.latch := rfl
@[simp] theorem setL_cfg : (s.setL v).cfg = s.cfg := rfl
@[simp] theorem setL_trace : (s.setL v).trace = s.trace := rfl
@[simp] theorem setL_keys : (s.setL v).keys = s.keys := rfl
@[simp] theorem setL_lines : (s.setL v).lines = s.lines := rfl
@[simp] theorem setL_lineReqs : (s.setL v).lineReqs = s.lineReqs := rfl
end

section
variable (s : State) (v : Word)
@[simp] theorem setEp_a : (s.setEp v).a = s.a := rfl
@[simp] theorem setEp_b : (s.setEp v).b = s.b := rfl
@[simp] theorem setEp_l : (s.setEp v).l = s.l := rfl
@[simp] theorem setEp_ep : (s.setEp v).ep = v := rfl
@[simp] theorem setEp_dp : (s.setEp v).dp = s.dp := rfl
@[simp] theorem setEp_f : (s.setEp v).f = s.f := rfl
@[simp] theorem setEp_ch : (s.setEp v).ch = s.ch := rfl
@[simp] theorem setEp_num : (s.setEp v).num = s.num := rfl
@[simp] theorem setEp_r : (s.setEp v).r = s.r := rfl
@[simp] theorem setEp_str : (s.setEp v).str = s.str := rfl
@[simp] theorem setEp_stk : (s.setEp v).stk = s.stk := rfl
@[simp] theorem setEp_mem : (s.setEp v).mem = s.mem := rfl
@[simp] theorem setEp_flag : (s.setEp v).flag = s.flag := rfl
@[simp] theorem setEp_dbg : (s.setEp v).dbg = s.dbg := rfl
@[simp] theorem setEp_halted : (s.setEp v).halted = s.halted := rfl
@[simp] theorem setEp_fault : (s.setEp v).fault = s.fault := rfl
@[simp] theorem setEp_choice : (s.setEp v).choice = s.choice := rfl
@[simp] theorem setEp_cnt : (s.setEp v).cnt = s.cnt := rfl
@[simp] theorem setEp_doom : (s.setEp v).doom = s.doom := rfl
@[simp] theorem setEp_latch : (s.setEp v).latch = s.latch := rfl
@[simp] theorem setEp_cfg : (s.setEp v).cfg = s.cfg := rfl
@[simp] theorem setEp_trace : (s.setEp v).trace = s.trace := rfl
@[simp] theorem setEp_keys : (s.setEp v).keys = s.keys := rfl
@[simp] theorem setEp_lines : (s.setEp v).lines = s.lines := rfl
@[simp] theorem setEp_lineReqs : (s.setEp v).lineReqs = s.lineReqs := rfl
end

section
variable (s : State) (v : Word)
@[simp] theorem setDp_a : (s.setDp v).a = s.a := rfl
@[simp] theorem setDp_b : (s.setDp v).b = s.b := rfl
@[simp] theorem setDp_l : (s.setDp v).l = s.l := rfl
@[simp] theorem setDp_ep : (s.setDp v).ep = s.ep := rfl
@[simp] theorem setDp_dp : (s.setDp v).dp = v := rfl
@[simp] theorem setDp_f : (s.setDp v).f = s.f := rfl
@[simp] theorem setDp_ch : (s.setDp v).ch = s.ch := rfl
@[simp] theorem setDp_num : (s.setDp v).num = s.num := rfl
@[simp] theorem setDp_r : (s.setDp v).r = s.r := rfl
@[simp] theorem setDp_str : (s.setDp v).str = s.str := rfl
@[simp] theorem setDp_stk : (s.setDp v).stk = s.stk := rfl
@[simp] theorem setDp_mem : (s.setDp v).mem = s.mem := rfl
@[simp] theorem setDp_flag : (s.setDp v).flag = s.flag := rfl
@[simp] theorem setDp_dbg : (s.setDp v).dbg = s.dbg := rfl
@[simp] theorem setDp_halted : (s.setDp v).halted = s.halted := rfl
@[simp] theorem setDp_fault : (s.setDp v).fault = s.fault := rfl
@[simp] theorem setDp_choice : (s.setDp v).choice = s.choice := rfl
@[simp] theorem setDp_cnt : (s.setDp v).cnt = s.cnt := rfl
@[simp] theorem setDp_doom : (s.setDp v).doom = s.doom := rfl
@[simp] theorem setDp_latch : (s.setDp v).latch = s.latch := rfl
@[simp] theorem setDp_cfg : (s.setDp v).cfg = s.cfg := rfl
@[simp] theorem setDp_trace : (s.setDp v).trace = s.trace := rfl
@[simp] theorem setDp_keys : (s.setDp v).keys = s.keys := rfl
@[simp] theorem setDp_lines : (s.setDp v).lines = s.lines := rfl
@[simp] theorem setDp_lineReqs : (s.setDp v).lineReqs = s.lineReqs := rfl
end

section
variable (s : State) (v : Word64)
@[simp] theorem setF_a : (s.setF v).a = s.a := rfl
@[simp] theorem setF_b : (s.setF v).b = s.b := rfl
@[simp] theorem setF_l : (s.setF v).l = s.l := rfl
@[simp] theorem setF_ep : (s.setF v).ep = s.ep := rfl
@[simp] theorem setF_dp : (s.setF v).dp = s.dp := rfl
@[simp] theorem setF_f : (s.setF v).f = v := rfl
@[simp] theorem setF_ch : (s.setF v).ch = s.ch := rfl
@[simp] theorem setF_num : (s.setF v).num = s.num := rfl
@[simp] theorem setF_r : (s.setF v).r = s.r := rfl
@[simp] theorem setF_str : (s.setF v).str = s.str := rfl
@[simp] theorem setF_stk : (s.setF v).stk = s.stk := rfl
@[simp] theorem setF_mem : (s.setF v).mem = s.mem := rfl
@[simp] theorem setF_flag : (s.setF v).flag = s.flag := rfl
@[simp] theorem setF_dbg : (s.setF v).dbg = s.dbg := rfl
@[simp] theorem setF_halted : (s.setF v).halted = s.halted := rfl
@[simp] theorem setF_fault : (s.setF v).fault = s.fault := rfl
@[simp] theorem setF_choice : (s.setF v).choice = s.choice := rfl
@[simp] theorem setF_cnt : (s.setF v).cnt = s.cnt := rfl
@[simp] theorem setF_doom : (s.setF v).doom = s.doom := rfl
@[simp] theorem setF_latch : (s.setF v).latch = s.latch := rfl
@[simp] theorem setF_cfg : (s.setF v).cfg = s.cfg := rfl
@[simp] theorem setF_trace : (s.setF v).trace = s.trace := rfl
@[simp] theorem setF_keys : (s.setF v).keys = s.keys := rfl
@[simp] theorem setF_lines : (s.setF v).lines = s.lines := rfl
@[simp] theorem setF_lineReqs : (s.setF v).lineReqs = s.lineReqs := rfl
end

section
variable (s : State) (v : Word32)
@[simp] theorem setCh_a : (s.setCh v).a = s.a := rfl
@[simp] theorem setCh_b : (s.setCh v).b = s.b := rfl
@[simp] theorem setCh_l : (s.setCh v).l = s.l := rfl
@[simp] theorem setCh_ep : (s.setCh v).ep = s.ep := rfl
@[simp] theorem setCh_dp : (s.setCh v).dp = s.dp := rfl
@[simp] theorem setCh_f : (s.setCh v).f = s.f := rfl
@[simp] theorem setCh_ch : (s.setCh v).ch = v := rfl
@[simp] theorem setCh_num : (s.setCh v).num = s.num := rfl
@[simp] theorem setCh_r : (s.setCh v).r = s.r := rfl
@[simp] theorem setCh_str : (s.setCh v).str = s.str := rfl
@[simp] theorem setCh_stk : (s.setCh v).stk = s.stk := rfl
@[simp] theorem setCh_mem : (s.setCh v).mem = s.mem := rfl
@[simp] theorem setCh_flag : (s.setCh v).flag = s.flag := rfl
@[simp] theorem setCh_dbg : (s.setCh v).dbg = s.dbg := rfl
@[simp] theorem setCh_halted : (s.setCh v).halted = s.halted := rfl
@[simp] theorem setCh_fault : (s.setCh v).fault = s.fault := rfl
@[simp] theorem setCh_choice : (s.setCh v).choice = s.choice := rfl
@[simp] theorem setCh_cnt : (s.setCh v).cnt = s.cnt := rfl
@[simp] theorem setCh_doom : (s.setCh v).doom = s.doom := rfl
@[simp] theorem setCh_latch : (s.setCh v).latch = s.latch := rfl
@[simp] theorem setCh_cfg : (s.setCh v).cfg = s.cfg := rfl
@[simp] theorem setCh_trace : (s.setCh v).trace = s.trace := rfl
@[simp] theorem setCh_keys : (s.setCh v).keys = s.keys := rfl
@[simp] theorem setCh_lines : (s.setCh v).lines = s.lines := rfl
@[simp] theorem setCh_lineReqs : (s.setCh v).lineReqs = s.lineReqs := rfl
end

section
variable (s : State) (v : Word32)
@[simp] theorem setNum_a : (s.setNum v).a = s.a := rfl
@[simp] theorem setNum_b : (s.setNum v).b = s.b := rfl
@[simp] theorem setNum_l : (s.setNum v).l = s.l := rfl
@[simp] theorem setNum_ep : (s.setNum v).ep = s.ep := rfl
@[simp] theorem setNum_dp : (s.setNum v).dp = s.dp := rfl
@[simp] theorem setNum_f : (s.setNum v).f = s.f := rfl
@[simp] theorem setNum_ch : (s.setNum v).ch = s.ch := rfl
@[simp] theorem setNum_num : (s.setNum v).num = v := rfl
@[simp] theorem setNum_r : (s.setNum v).r = s.r := rfl
@[simp] theorem setNum_str : (s.setNum v).str = s.str := rfl
@[simp] theorem setNum_stk : (s.setNum v).stk = s.stk := rfl
@[simp] theorem setNum_mem : (s.setNum v).mem = s.mem := rfl
@[simp] theorem setNum_flag : (s.setNum v).flag = s.flag := rfl
@[simp] theorem setNum_dbg : (s.setNum v).dbg = s.dbg := rfl
@[simp] theorem setNum_halted : (s.setNum v).halted = s.halted := rfl
@[simp] theorem setNum_fault : (s.setNum v).fault = s.fault := rfl
@[simp] theorem setNum_choice : (s.setNum v).choice = s.choice := rfl
@[simp] theorem setNum_cnt : (s.setNum v).cnt = s.cnt := rfl
@[simp] theorem setNum_doom : (s.setNum v).doom = s.doom := rfl
@[simp] theorem setNum_latch : (s.setNum v).latch = s.latch := rfl
@[simp] theorem setNum_cfg : (s.setNum v).cfg = s.cfg := rfl
@[simp] theorem setNum_trace : (s.setNum v).trace = s.trace := rfl
@[simp] theorem setNum_keys : (s.setNum v).keys = s.keys := rfl
@[simp] theorem setNum_lines : (s.setNum v).lines = s.lines := rfl
@[simp] theorem setNum_lineReqs : (s.setNum v).lineReqs = s.lineReqs := rfl
end

section
variable (s : State) (v : List Byte)
@[simp] theorem setR_a : (s.setR v).a = s.a := rfl
@[simp] theorem setR_b : (s.setR v).b = s.b := rfl
@[simp] theorem setR_l : (s.setR v).l = s.l := rfl
@[simp] theorem setR_ep : (s.setR v).ep = s.ep := rfl
@[simp] theorem setR_dp : (s.setR v).dp = s.dp := rfl
@[simp] theorem setR_f : (s.setR v).f = s.f := rfl
@[simp] theorem setR_ch : (s.setR v).ch = s.ch := rfl
@[simp] theorem setR_num : (s.setR v).num = s.num := rfl
@[simp] theorem setR_r : (s.setR v).r = v := rfl
@[simp] theorem setR_str : (s.setR v).str = s.str := rfl
@[simp] theorem setR_stk : (s.setR v).stk = s.stk := rfl
@[simp] theorem setR_mem : (s.setR v).mem = s.mem := rfl
@[simp] theorem setR_flag : (s.setR v).flag = s.flag := rfl
@[simp] theorem setR_dbg : (s.setR v).dbg = s.dbg := rfl
@[simp] theorem setR_halted : (s.setR v).halted = s.halted := rfl
@[simp] theorem setR_fault : (s.setR v).fault = s.fault := rfl
@[simp] theorem setR_choice : (s.setR v).choice = s.choice := rfl
@[simp] theorem setR_cnt : (s.setR v).cnt = s.cnt := rfl
@[simp] theorem setR_doom : (s.setR v).doom = s.doom := rfl
@[simp] theorem setR_latch : (s.setR v).latch = s.latch := rfl
@[simp] theorem setR_cfg : (s.setR v).cfg = s.cfg := rfl
@[simp] theorem setR_trace : (s.setR v).trace = s.trace := rfl
@[simp] theorem setR_keys : (s.setR v).keys = s.keys := rfl
@[simp] theorem setR_lines : (s.setR v).lines = s.lines := rfl
@[simp] theorem setR_lineReqs : (s.setR v).lineReqs = s.lineReqs := rfl
end

section
variable (s : State) (v : List Byte)
@[simp] theorem setStr_a : (s.setStr v).a = s.a := rfl
@[simp] theorem setStr_b : (s.setStr v).b = s.b := rfl
@[simp] theorem setStr_l : (s.setStr v).l = s.l := rfl
@[simp] theorem setStr_ep : (s.setStr v).ep = s.ep := rfl
@[simp] theorem setStr_dp : (s.setStr v).dp = s.dp := rfl
@[simp] theorem setStr_f : (s.setStr v).f = s.f := rfl
@[simp] theorem setStr_ch : (s.setStr v).ch = s.ch := rfl
@[simp] theorem setStr_num : (s.setStr v).num = s.num := rfl
@[simp] theorem setStr_r : (s.setStr v).r = s.r := rfl
@[simp] theorem setStr_str : (s.setStr v).str = v := rfl
@[simp] theorem setStr_stk : (s.setStr v).stk = s.stk := rfl
@[simp] theorem setStr_mem : (s.setStr v).mem = s.mem := rfl
@[simp] theorem setStr_flag : (s.setStr v).flag = s.flag := rfl
@[simp] theorem setStr_dbg : (s.setStr v).dbg = s.dbg := rfl
@[simp] theorem setStr_halted : (s.setStr v).halted = s.halted := rfl
@[simp] theorem setStr_fault : (s.setStr v).fault = s.fault := rfl
@[simp] theorem setStr_choice : (s.setStr v).choice = s.choice := rfl
@[simp] theorem setStr_cnt : (s.setStr v).cnt = s.cnt := rfl
@[simp] theorem setStr_doom : (s.setStr v).doom = s.doom := rfl
@[simp] theorem setStr_latch : (s.setStr v).latch = s.latch := rfl
@[simp] theorem setStr_cfg : (s.setStr v).cfg = s.cfg := rfl
@[simp] theorem setStr_trace : (s.setStr v).trace = s.trace := rfl
@[simp] theorem setStr_keys : (s.setStr v).keys = s.keys := rfl
@[simp] theorem setStr_lines : (s.setStr v).lines = s.lines := rfl
@[simp] theorem setStr_lineReqs : (s.setStr v).lineReqs = s.lineReqs := rfl
end

section
variable (s : State) (v : List Byte)
@[simp] theorem setStk_a : (s.setStk v).a = s.a := rfl
@[simp] theorem setStk_b : (s.setStk v).b = s.b := rfl
@[simp] theorem setStk_l : (s.setStk v).l = s.l := rfl
@[simp] theorem setStk_ep : (s.setStk v).ep = s.ep := rfl
@[simp] theorem setStk_dp : (s.setStk v).dp = s.dp := rfl
@[simp] theorem setStk_f : (s.setStk v).f = s.f := rfl
@[simp] theorem setStk_ch : (s.setStk v).ch = s.ch := rfl
@[simp] theorem setStk_num : (s.setStk v).num = s.num := rfl
@[simp] theorem setStk_r : (s.setStk v).r = s.r := rfl
@[simp] theorem setStk_str : (s.setStk v).str = s.str := rfl
@[simp] theorem setStk_stk : (s.setStk v).stk = v := rfl
@[simp] theorem setStk_mem : (s.setStk v).mem = s.mem := rfl
@[simp] theorem setStk_flag : (s.setStk v).flag = s.flag := rfl
@[simp] theorem setStk_dbg : (s.setStk v).dbg = s.dbg := rfl
@[simp] theorem setStk_halted : (s.setStk v).halted = s.halted := rfl
@[simp] theorem setStk_fault : (s.setStk v).fault = s.fault := rfl
@[simp] theorem setStk_choice : (s.setStk v).choice = s.choice := rfl
@[simp] theorem setStk_cnt : (s.setStk v).cnt = s.cnt := rfl
@[simp] theorem setStk_doom : (s.setStk v).doom = s.doom := rfl
@[simp] theorem setStk_latch : (s.setStk v).latch = s.latch := rfl
@[simp] theorem setStk_cfg : (s.setStk v).cfg = s.cfg := rfl
@[simp] theorem setStk_trace : (s.setStk v).trace = s.trace := rfl
@[simp] theorem setStk_keys : (s.setStk v).keys = s.keys := rfl
@[simp] theorem setStk_lines : (s.setStk v).lines = s.lines := rfl
@[simp] theorem setStk_lineReqs : (s.setStk v).lineReqs = s.lineReqs := rfl
end

section
variable (s : State) (v : Memory)
@[simp] theorem setMem_a : (s.setMem v).a = s.a := rfl
@[simp] theorem setMem_b : (s.setMem v).b = s.b := rfl
@[simp] theorem setMem_l : (s.setMem v).l = s.l := rfl
@[simp] theorem setMem_ep : (s.setMem v).ep = s.ep := rfl
@[simp] theorem setMem_dp : (s.setMem v).dp = s.dp := rfl
@[simp] theorem setMem_f : (s.setMem v).f = s.f := rfl
@[simp] theorem setMem_ch : (s.setMem v).ch = s.ch := rfl
@[simp] theorem setMem_num : (s.setMem v).num = s.num := rfl
@[simp] theorem setMem_r : (s.setMem v).r = s.r := rfl
@[simp] theorem setMem_str : (s.setMem v).str = s.str := rfl
@[simp] theorem setMem_stk : (s.setMem v).stk = s.stk := rfl
@[simp] theorem setMem_mem : (s.setMem v).mem = v := rfl
@[simp] theorem setMem_flag : (s.setMem v).flag = s.flag := rfl
@[simp] theorem setMem_dbg : (s.setMem v).dbg = s.dbg := rfl
@[simp] theorem setMem_halted : (s.setMem v).halted = s.halted := rfl
@[simp] theorem setMem_fault : (s.setMem v).fault = s.fault := rfl
@[simp] theorem setMem_choice : (s.setMem v).choice = s.choice := rfl
@[simp] theorem setMem_cnt : (s.setMem v).cnt = s.cnt := rfl
@[simp] theorem setMem_doom : (s.setMem v).doom = s.doom := rfl
@[simp] theorem setMem_latch : (s.setMem v).latch = s.latch := rfl
@[simp] theorem setMem_cfg : (s.setMem v).cfg = s.cfg := rfl
@[simp] theorem setMem_trace : (s.setMem v).trace = s.trace := rfl
@[simp] theorem setMem_keys : (s.setMem v).keys = s.keys := rfl
@[simp] theorem setMem_lines : (s.setMem v).lines = s.lines := rfl
@[simp] theorem setMem_lineReqs : (s.setMem v).lineReqs = s.lineReqs := rfl
end

section
variable (s : State) (v : Bool)
@[simp] theorem setFlag_a : (s.setFlag v).a = s.a := rfl
@[simp] theorem setFlag_b : (s.setFlag v).b = s.b := rfl
@[simp] theorem setFlag_l : (s.setFlag v).l = s.l := rfl
@[simp] theorem setFlag_ep : (s.setFlag v).ep = s.ep := rfl
@[simp] theorem setFlag_dp : (s.setFlag v).dp = s.dp := rfl
@[simp] theorem setFlag_f : (s.setFlag v).f = s.f := rfl
@[simp] theorem setFlag_ch : (s.setFlag v).ch = s.ch := rfl
@[simp] theorem setFlag_num : (s.setFlag v).num = s.num := rfl
@[simp] theorem setFlag_r : (s.setFlag v).r = s.r := rfl
@[simp] theorem setFlag_str : (s.setFlag v).str = s.str := rfl
@[simp] theorem setFlag_stk : (s.setFlag v).stk = s.stk := rfl
@[simp] theorem setFlag_mem : (s.setFlag v).mem = s.mem := rfl
@[simp] theorem setFlag_flag : (s.setFlag v).flag = v := rfl
@[simp] theorem setFlag_dbg : (s.setFlag v).dbg = s.dbg := rfl
@[simp] theorem setFlag_halted : (s.setFlag v).halted = s.halted := rfl
@[simp] theorem setFlag_fault : (s.setFlag v).fault = s.fault := rfl
@[simp] theorem setFlag_choice : (s.setFlag v).choice = s.choice := rfl
@[simp] theorem setFlag_cnt : (s.setFlag v).cnt = s.cnt := rfl
@[simp] theorem setFlag_doom : (s.setFlag v).doom = s.doom := rfl
@[simp] theorem setFlag_latch : (s.setFlag v).latch = s.latch := rfl
@[simp] theorem setFlag_cfg : (s.setFlag v).cfg = s.cfg := rfl
@[simp] theorem setFlag_trace : (s.setFlag v).trace = s.trace := rfl
@[simp] theorem setFlag_keys : (s.setFlag v).keys = s.keys := rfl
@[simp] theorem setFlag_lines : (s.setFlag v).lines = s.lines := rfl
@[simp] theorem setFlag_lineReqs : (s.setFlag v).lineReqs = s.lineReqs := rfl
end

section
variable (s : State) (v : Bool)
@[simp] theorem setDbg_a : (s.setDbg v).a = s.a := rfl
@[simp] theorem setDbg_b : (s.setDbg v).b = s.b := rfl
@[simp] theorem setDbg_l : (s.setDbg v).l = s.l := rfl
@[simp] theorem setDbg_ep : (s.setDbg v).ep = s.ep := rfl
@[simp] theorem setDbg_dp : (s.setDbg v).dp = s.dp := rfl
@[simp] theorem setDbg_f : (s.setDbg v).f = s.f := rfl
@[simp] theorem setDbg_ch : (s.setDbg v).ch = s.ch := rfl
@[simp] theorem setDbg_num : (s.setDbg v).num = s.num := rfl
@[simp] theorem setDbg_r : (s.setDbg v).r = s.r := rfl
@[simp] theorem setDbg_str : (s.setDbg v).str = s.str := rfl
@[simp] theorem setDbg_stk : (s.setDbg v).stk = s.stk := rfl
@[simp] theorem setDbg_mem : (s.setDbg v).mem = s.mem := rfl
@[simp] theorem setDbg_flag : (s.setDbg v).flag = s.flag := rfl
@[simp] theorem setDbg_dbg : (s.setDbg v).dbg = v := rfl
@[simp] theorem setDbg_halted : (s.setDbg v).halted = s.halted := rfl
@[simp] theorem setDbg_fault : (s.setDbg v).fault = s.fault := rfl
@[simp] theorem setDbg_choice : (s.setDbg v).choice = s.choice := rfl
@[simp] theorem setDbg_cnt : (s.setDbg v).cnt = s.cnt := rfl
@[simp] theorem setDbg_doom : (s.setDbg v).doom = s.doom := rfl
@[simp] theorem setDbg_latch : (s.setDbg v).latch = s.latch := rfl
@[simp] theorem setDbg_cfg : (s.setDbg v).cfg = s.cfg := rfl
@[simp] theorem setDbg_trace : (s.setDbg v).trace = s.trace := rfl
@[simp] theorem setDbg_keys : (s.setDbg v).keys = s.keys := rfl
@[simp] theorem setDbg_lines : (s.setDbg v).lines = s.lines := rfl
@[simp] theorem setDbg_lineReqs : (s.setDbg v).lineReqs = s.lineReqs := rfl
end

section
variable (s : State) (v : Bool)
@[simp] theorem setHalted_a : (s.setHalted v).a = s.a := rfl
@[simp] theorem setHalted_b : (s.setHalted v).b = s.b := rfl
@[simp] theorem setHalted_l : (s.setHalted v).l = s.l := rfl
@[simp] theorem setHalted_ep : (s.setHalted v).ep = s.ep := rfl
@[simp] theorem setHalted_dp : (s.setHalted v).dp = s.dp := rfl
@[simp] theorem setHalted_f : (s.setHalted v).f = s.f := rfl
@[simp] theorem setHalted_ch : (s.setHalted v).ch = s.ch := rfl
@[simp] theorem setHalted_num : (s.setHalted v).num = s.num := rfl
@[simp] theorem setHalted_r : (s.setHalted v).r = s.r := rfl
@[simp] theorem setHalted_str : (s.setHalted v).str = s.str := rfl
@[simp] theorem setHalted_stk : (s.setHalted v).stk = s.stk := rfl
@[simp] theorem setHalted_mem : (s.setHalted v).mem = s.mem := rfl
@[simp] theorem setHalted_flag : (s.setHalted v).flag = s.flag := rfl
@[simp] theorem setHalted_dbg : (s.setHalted v).dbg = s.dbg := rfl
@[simp] theorem setHalted_halted : (s.setHalted v).halted = v := rfl
@[simp] theorem setHalted_fault : (s.setHalted v).fault = s.fault := rfl
@[simp] theorem setHalted_choice : (s.setHalted v).choice = s.choice := rfl
@[simp] theorem setHalted_cnt : (s.setHalted v).cnt = s.cnt := rfl
@[simp] theorem setHalted_doom : (s.setHalted v).doom = s.doom := rfl
@[simp] theorem setHalted_latch : (s.setHalted v).latch = s.latch := rfl
@[simp] theorem setHalted_cfg : (s.setHalted v).cfg = s.cfg := rfl
@[simp] theorem setHalted_trace : (s.setHalted v).trace = s.trace := rfl
@[simp] theorem setHalted_keys : (s.setHalted v).keys = s.keys := rfl
@[simp] theorem setHalted_lines : (s.setHalted v).lines = s.lines := rfl
@[simp] theorem setHalted_lineReqs : (s.setHalted v).lineReqs = s.lineReqs := rfl
end

section
variable (s : State) (v : Option FaultRecord)
@[simp] theorem setFault_a : (s.setFault v).a = s.a := rfl
@[simp] theorem setFault_b : (s.setFault v).b = s.b := rfl
@[simp] theorem setFault_l : (s.setFault v).l = s.l := rfl
@[simp] theorem setFault_ep : (s.setFault v).ep = s.ep := rfl
@[simp] theorem setFault_dp : (s.setFault v).dp = s.dp := rfl
@[simp] theorem setFault_f : (s.setFault v).f = s.f := rfl
@[simp] theorem setFault_ch : (s.setFault v).ch = s.ch := rfl
@[simp] theorem setFault_num : (s.setFault v).num = s.num := rfl
@[simp] theorem setFault_r : (s.setFault v).r = s.r := rfl
@[simp] theorem setFault_str : (s.setFault v).str = s.str := rfl
@[simp] theorem setFault_stk : (s.setFault v).stk = s.stk := rfl
@[simp] theorem setFault_mem : (s.setFault v).mem = s.mem := rfl
@[simp] theorem setFault_flag : (s.setFault v).flag = s.flag := rfl
@[simp] theorem setFault_dbg : (s.setFault v).dbg = s.dbg := rfl
@[simp] theorem setFault_halted : (s.setFault v).halted = s.halted := rfl
@[simp] theorem setFault_fault : (s.setFault v).fault = v := rfl
@[simp] theorem setFault_choice : (s.setFault v).choice = s.choice := rfl
@[simp] theorem setFault_cnt : (s.setFault v).cnt = s.cnt := rfl
@[simp] theorem setFault_doom : (s.setFault v).doom = s.doom := rfl
@[simp] theorem setFault_latch : (s.setFault v).latch = s.latch := rfl
@[simp] theorem setFault_cfg : (s.setFault v).cfg = s.cfg := rfl
@[simp] theorem setFault_trace : (s.setFault v).trace = s.trace := rfl
@[simp] theorem setFault_keys : (s.setFault v).keys = s.keys := rfl
@[simp] theorem setFault_lines : (s.setFault v).lines = s.lines := rfl
@[simp] theorem setFault_lineReqs : (s.setFault v).lineReqs = s.lineReqs := rfl
end

section
variable (s : State) (v : Choice)
@[simp] theorem setChoice_a : (s.setChoice v).a = s.a := rfl
@[simp] theorem setChoice_b : (s.setChoice v).b = s.b := rfl
@[simp] theorem setChoice_l : (s.setChoice v).l = s.l := rfl
@[simp] theorem setChoice_ep : (s.setChoice v).ep = s.ep := rfl
@[simp] theorem setChoice_dp : (s.setChoice v).dp = s.dp := rfl
@[simp] theorem setChoice_f : (s.setChoice v).f = s.f := rfl
@[simp] theorem setChoice_ch : (s.setChoice v).ch = s.ch := rfl
@[simp] theorem setChoice_num : (s.setChoice v).num = s.num := rfl
@[simp] theorem setChoice_r : (s.setChoice v).r = s.r := rfl
@[simp] theorem setChoice_str : (s.setChoice v).str = s.str := rfl
@[simp] theorem setChoice_stk : (s.setChoice v).stk = s.stk := rfl
@[simp] theorem setChoice_mem : (s.setChoice v).mem = s.mem := rfl
@[simp] theorem setChoice_flag : (s.setChoice v).flag = s.flag := rfl
@[simp] theorem setChoice_dbg : (s.setChoice v).dbg = s.dbg := rfl
@[simp] theorem setChoice_halted : (s.setChoice v).halted = s.halted := rfl
@[simp] theorem setChoice_fault : (s.setChoice v).fault = s.fault := rfl
@[simp] theorem setChoice_choice : (s.setChoice v).choice = v := rfl
@[simp] theorem setChoice_cnt : (s.setChoice v).cnt = s.cnt := rfl
@[simp] theorem setChoice_doom : (s.setChoice v).doom = s.doom := rfl
@[simp] theorem setChoice_latch : (s.setChoice v).latch = s.latch := rfl
@[simp] theorem setChoice_cfg : (s.setChoice v).cfg = s.cfg := rfl
@[simp] theorem setChoice_trace : (s.setChoice v).trace = s.trace := rfl
@[simp] theorem setChoice_keys : (s.setChoice v).keys = s.keys := rfl
@[simp] theorem setChoice_lines : (s.setChoice v).lines = s.lines := rfl
@[simp] theorem setChoice_lineReqs : (s.setChoice v).lineReqs = s.lineReqs := rfl
end

section
variable (s : State) (v : Word64)
@[simp] theorem setCnt_a : (s.setCnt v).a = s.a := rfl
@[simp] theorem setCnt_b : (s.setCnt v).b = s.b := rfl
@[simp] theorem setCnt_l : (s.setCnt v).l = s.l := rfl
@[simp] theorem setCnt_ep : (s.setCnt v).ep = s.ep := rfl
@[simp] theorem setCnt_dp : (s.setCnt v).dp = s.dp := rfl
@[simp] theorem setCnt_f : (s.setCnt v).f = s.f := rfl
@[simp] theorem setCnt_ch : (s.setCnt v).ch = s.ch := rfl
@[simp] theorem setCnt_num : (s.setCnt v).num = s.num := rfl
@[simp] theorem setCnt_r : (s.setCnt v).r = s.r := rfl
@[simp] theorem setCnt_str : (s.setCnt v).str = s.str := rfl
@[simp] theorem setCnt_stk : (s.setCnt v).stk = s.stk := rfl
@[simp] theorem setCnt_mem : (s.setCnt v).mem = s.mem := rfl
@[simp] theorem setCnt_flag : (s.setCnt v).flag = s.flag := rfl
@[simp] theorem setCnt_dbg : (s.setCnt v).dbg = s.dbg := rfl
@[simp] theorem setCnt_halted : (s.setCnt v).halted = s.halted := rfl
@[simp] theorem setCnt_fault : (s.setCnt v).fault = s.fault := rfl
@[simp] theorem setCnt_choice : (s.setCnt v).choice = s.choice := rfl
@[simp] theorem setCnt_cnt : (s.setCnt v).cnt = v := rfl
@[simp] theorem setCnt_doom : (s.setCnt v).doom = s.doom := rfl
@[simp] theorem setCnt_latch : (s.setCnt v).latch = s.latch := rfl
@[simp] theorem setCnt_cfg : (s.setCnt v).cfg = s.cfg := rfl
@[simp] theorem setCnt_trace : (s.setCnt v).trace = s.trace := rfl
@[simp] theorem setCnt_keys : (s.setCnt v).keys = s.keys := rfl
@[simp] theorem setCnt_lines : (s.setCnt v).lines = s.lines := rfl
@[simp] theorem setCnt_lineReqs : (s.setCnt v).lineReqs = s.lineReqs := rfl
end

section
variable (s : State) (v : Bool)
@[simp] theorem setDoom_a : (s.setDoom v).a = s.a := rfl
@[simp] theorem setDoom_b : (s.setDoom v).b = s.b := rfl
@[simp] theorem setDoom_l : (s.setDoom v).l = s.l := rfl
@[simp] theorem setDoom_ep : (s.setDoom v).ep = s.ep := rfl
@[simp] theorem setDoom_dp : (s.setDoom v).dp = s.dp := rfl
@[simp] theorem setDoom_f : (s.setDoom v).f = s.f := rfl
@[simp] theorem setDoom_ch : (s.setDoom v).ch = s.ch := rfl
@[simp] theorem setDoom_num : (s.setDoom v).num = s.num := rfl
@[simp] theorem setDoom_r : (s.setDoom v).r = s.r := rfl
@[simp] theorem setDoom_str : (s.setDoom v).str = s.str := rfl
@[simp] theorem setDoom_stk : (s.setDoom v).stk = s.stk := rfl
@[simp] theorem setDoom_mem : (s.setDoom v).mem = s.mem := rfl
@[simp] theorem setDoom_flag : (s.setDoom v).flag = s.flag := rfl
@[simp] theorem setDoom_dbg : (s.setDoom v).dbg = s.dbg := rfl
@[simp] theorem setDoom_halted : (s.setDoom v).halted = s.halted := rfl
@[simp] theorem setDoom_fault : (s.setDoom v).fault = s.fault := rfl
@[simp] theorem setDoom_choice : (s.setDoom v).choice = s.choice := rfl
@[simp] theorem setDoom_cnt : (s.setDoom v).cnt = s.cnt := rfl
@[simp] theorem setDoom_doom : (s.setDoom v).doom = v := rfl
@[simp] theorem setDoom_latch : (s.setDoom v).latch = s.latch := rfl
@[simp] theorem setDoom_cfg : (s.setDoom v).cfg = s.cfg := rfl
@[simp] theorem setDoom_trace : (s.setDoom v).trace = s.trace := rfl
@[simp] theorem setDoom_keys : (s.setDoom v).keys = s.keys := rfl
@[simp] theorem setDoom_lines : (s.setDoom v).lines = s.lines := rfl
@[simp] theorem setDoom_lineReqs : (s.setDoom v).lineReqs = s.lineReqs := rfl
end

section
variable (s : State) (v : Bool)
@[simp] theorem setLatch_a : (s.setLatch v).a = s.a := rfl
@[simp] theorem setLatch_b : (s.setLatch v).b = s.b := rfl
@[simp] theorem setLatch_l : (s.setLatch v).l = s.l := rfl
@[simp] theorem setLatch_ep : (s.setLatch v).ep = s.ep := rfl
@[simp] theorem setLatch_dp : (s.setLatch v).dp = s.dp := rfl
@[simp] theorem setLatch_f : (s.setLatch v).f = s.f := rfl
@[simp] theorem setLatch_ch : (s.setLatch v).ch = s.ch := rfl
@[simp] theorem setLatch_num : (s.setLatch v).num = s.num := rfl
@[simp] theorem setLatch_r : (s.setLatch v).r = s.r := rfl
@[simp] theorem setLatch_str : (s.setLatch v).str = s.str := rfl
@[simp] theorem setLatch_stk : (s.setLatch v).stk = s.stk := rfl
@[simp] theorem setLatch_mem : (s.setLatch v).mem = s.mem := rfl
@[simp] theorem setLatch_flag : (s.setLatch v).flag = s.flag := rfl
@[simp] theorem setLatch_dbg : (s.setLatch v).dbg = s.dbg := rfl
@[simp] theorem setLatch_halted : (s.setLatch v).halted = s.halted := rfl
@[simp] theorem setLatch_fault : (s.setLatch v).fault = s.fault := rfl
@[simp] theorem setLatch_choice : (s.setLatch v).choice = s.choice := rfl
@[simp] theorem setLatch_cnt : (s.setLatch v).cnt = s.cnt := rfl
@[simp] theorem setLatch_doom : (s.setLatch v).doom = s.doom := rfl
@[simp] theorem setLatch_latch : (s.setLatch v).latch = v := rfl
@[simp] theorem setLatch_cfg : (s.setLatch v).cfg = s.cfg := rfl
@[simp] theorem setLatch_trace : (s.setLatch v).trace = s.trace := rfl
@[simp] theorem setLatch_keys : (s.setLatch v).keys = s.keys := rfl
@[simp] theorem setLatch_lines : (s.setLatch v).lines = s.lines := rfl
@[simp] theorem setLatch_lineReqs : (s.setLatch v).lineReqs = s.lineReqs := rfl
end

section
variable (s : State) (v : List Event)
@[simp] theorem setTrace_a : (s.setTrace v).a = s.a := rfl
@[simp] theorem setTrace_b : (s.setTrace v).b = s.b := rfl
@[simp] theorem setTrace_l : (s.setTrace v).l = s.l := rfl
@[simp] theorem setTrace_ep : (s.setTrace v).ep = s.ep := rfl
@[simp] theorem setTrace_dp : (s.setTrace v).dp = s.dp := rfl
@[simp] theorem setTrace_f : (s.setTrace v).f = s.f := rfl
@[simp] theorem setTrace_ch : (s.setTrace v).ch = s.ch := rfl
@[simp] theorem setTrace_num : (s.setTrace v).num = s.num := rfl
@[simp] theorem setTrace_r : (s.setTrace v).r = s.r := rfl
@[simp] theorem setTrace_str : (s.setTrace v).str = s.str := rfl
@[simp] theorem setTrace_stk : (s.setTrace v).stk = s.stk := rfl
@[simp] theorem setTrace_mem : (s.setTrace v).mem = s.mem := rfl
@[simp] theorem setTrace_flag : (s.setTrace v).flag = s.flag := rfl
@[simp] theorem setTrace_dbg : (s.setTrace v).dbg = s.dbg := rfl
@[simp] theorem setTrace_halted : (s.setTrace v).halted = s.halted := rfl
@[simp] theorem setTrace_fault : (s.setTrace v).fault = s.fault := rfl
@[simp] theorem setTrace_choice : (s.setTrace v).choice = s.choice := rfl
@[simp] theorem setTrace_cnt : (s.setTrace v).cnt = s.cnt := rfl
@[simp] theorem setTrace_doom : (s.setTrace v).doom = s.doom := rfl
@[simp] theorem setTrace_latch : (s.setTrace v).latch = s.latch := rfl
@[simp] theorem setTrace_cfg : (s.setTrace v).cfg = s.cfg := rfl
@[simp] theorem setTrace_trace : (s.setTrace v).trace = v := rfl
@[simp] theorem setTrace_keys : (s.setTrace v).keys = s.keys := rfl
@[simp] theorem setTrace_lines : (s.setTrace v).lines = s.lines := rfl
@[simp] theorem setTrace_lineReqs : (s.setTrace v).lineReqs = s.lineReqs := rfl
end

section
variable (s : State) (v : List Word32)
@[simp] theorem setKeys_a : (s.setKeys v).a = s.a := rfl
@[simp] theorem setKeys_b : (s.setKeys v).b = s.b := rfl
@[simp] theorem setKeys_l : (s.setKeys v).l = s.l := rfl
@[simp] theorem setKeys_ep : (s.setKeys v).ep = s.ep := rfl
@[simp] theorem setKeys_dp : (s.setKeys v).dp = s.dp := rfl
@[simp] theorem setKeys_f : (s.setKeys v).f = s.f := rfl
@[simp] theorem setKeys_ch : (s.setKeys v).ch = s.ch := rfl
@[simp] theorem setKeys_num : (s.setKeys v).num = s.num := rfl
@[simp] theorem setKeys_r : (s.setKeys v).r = s.r := rfl
@[simp] theorem setKeys_str : (s.setKeys v).str = s.str := rfl
@[simp] theorem setKeys_stk : (s.setKeys v).stk = s.stk := rfl
@[simp] theorem setKeys_mem : (s.setKeys v).mem = s.mem := rfl
@[simp] theorem setKeys_flag : (s.setKeys v).flag = s.flag := rfl
@[simp] theorem setKeys_dbg : (s.setKeys v).dbg = s.dbg := rfl
@[simp] theorem setKeys_halted : (s.setKeys v).halted = s.halted := rfl
@[simp] theorem setKeys_fault : (s.setKeys v).fault = s.fault := rfl
@[simp] theorem setKeys_choice : (s.setKeys v).choice = s.choice := rfl
@[simp] theorem setKeys_cnt : (s.setKeys v).cnt = s.cnt := rfl
@[simp] theorem setKeys_doom : (s.setKeys v).doom = s.doom := rfl
@[simp] theorem setKeys_latch : (s.setKeys v).latch = s.latch := rfl
@[simp] theorem setKeys_cfg : (s.setKeys v).cfg = s.cfg := rfl
@[simp] theorem setKeys_trace : (s.setKeys v).trace = s.trace := rfl
@[simp] theorem setKeys_keys : (s.setKeys v).keys = v := rfl
@[simp] theorem setKeys_lines : (s.setKeys v).lines = s.lines := rfl
@[simp] theorem setKeys_lineReqs : (s.setKeys v).lineReqs = s.lineReqs := rfl
end

section
variable (s : State) (v : List (List Byte))
@[simp] theorem setLines_a : (s.setLines v).a = s.a := rfl
@[simp] theorem setLines_b : (s.setLines v).b = s.b := rfl
@[simp] theorem setLines_l : (s.setLines v).l = s.l := rfl
@[simp] theorem setLines_ep : (s.setLines v).ep = s.ep := rfl
@[simp] theorem setLines_dp : (s.setLines v).dp = s.dp := rfl
@[simp] theorem setLines_f : (s.setLines v).f = s.f := rfl
@[simp] theorem setLines_ch : (s.setLines v).ch = s.ch := rfl
@[simp] theorem setLines_num : (s.setLines v).num = s.num := rfl
@[simp] theorem setLines_r : (s.setLines v).r = s.r := rfl
@[simp] theorem setLines_str : (s.setLines v).str = s.str := rfl
@[simp] theorem setLines_stk : (s.setLines v).stk = s.stk := rfl
@[simp] theorem setLines_mem : (s.setLines v).mem = s.mem := rfl
@[simp] theorem setLines_flag : (s.setLines v).flag = s.flag := rfl
@[simp] theorem setLines_dbg : (s.setLines v).dbg = s.dbg := rfl
@[simp] theorem setLines_halted : (s.setLines v).halted = s.halted := rfl
@[simp] theorem setLines_fault : (s.setLines v).fault = s.fault := rfl
@[simp] theorem setLines_choice : (s.setLines v).choice = s.choice := rfl
@[simp] theorem setLines_cnt : (s.setLines v).cnt = s.cnt := rfl
@[simp] theorem setLines_doom : (s.setLines v).doom = s.doom := rfl
@[simp] theorem setLines_latch : (s.setLines v).latch = s.latch := rfl
@[simp] theorem setLines_cfg : (s.setLines v).cfg = s.cfg := rfl
@[simp] theorem setLines_trace : (s.setLines v).trace = s.trace := rfl
@[simp] theorem setLines_keys : (s.setLines v).keys = s.keys := rfl
@[simp] theorem setLines_lines : (s.setLines v).lines = v := rfl
@[simp] theorem setLines_lineReqs : (s.setLines v).lineReqs = s.lineReqs := rfl
end

section
variable (s : State) (v : Nat)
@[simp] theorem setLineReqs_a : (s.setLineReqs v).a = s.a := rfl
@[simp] theorem setLineReqs_b : (s.setLineReqs v).b = s.b := rfl
@[simp] theorem setLineReqs_l : (s.setLineReqs v).l = s.l := rfl
@[simp] theorem setLineReqs_ep : (s.setLineReqs v).ep = s.ep := rfl
@[simp] theorem setLineReqs_dp : (s.setLineReqs v).dp = s.dp := rfl
@[simp] theorem setLineReqs_f : (s.setLineReqs v).f = s.f := rfl
@[simp] theorem setLineReqs_ch : (s.setLineReqs v).ch = s.ch := rfl
@[simp] theorem setLineReqs_num : (s.setLineReqs v).num = s.num := rfl
@[simp] theorem setLineReqs_r : (s.setLineReqs v).r = s.r := rfl
@[simp] theorem setLineReqs_str : (s.setLineReqs v).str = s.str := rfl
@[simp] theorem setLineReqs_stk : (s.setLineReqs v).stk = s.stk := rfl
@[simp] theorem setLineReqs_mem : (s.setLineReqs v).mem = s.mem := rfl
@[simp] theorem setLineReqs_flag : (s.setLineReqs v).flag = s.flag := rfl
@[simp] theorem setLineReqs_dbg : (s.setLineReqs v).dbg = s.dbg := rfl
@[simp] theorem setLineReqs_halted : (s.setLineReqs v).halted = s.halted := rfl
@[simp] theorem setLineReqs_fault : (s.setLineReqs v).fault = s.fault := rfl
@[simp] theorem setLineReqs_choice : (s.setLineReqs v).choice = s.choice := rfl
@[simp] theorem setLineReqs_cnt : (s.setLineReqs v).cnt = s.cnt := rfl
@[simp] theorem setLineReqs_doom : (s.setLineReqs v).doom = s.doom := rfl
@[simp] theorem setLineReqs_latch : (s.setLineReqs v).latch = s.latch := rfl
@[simp] theorem setLineReqs_cfg : (s.setLineReqs v).cfg = s.cfg := rfl
@[simp] theorem setLineReqs_trace : (s.setLineReqs v).trace = s.trace := rfl
@[simp] theorem setLineReqs_keys : (s.setLineReqs v).keys = s.keys := rfl
@[simp] theorem setLineReqs_lines : (s.setLineReqs v).lines = s.lines := rfl
@[simp] theorem setLineReqs_lineReqs : (s.setLineReqs v).lineReqs = v := rfl
end

/-- Writes to the host's side of the ports leave the 20 elements of R20 as they are. -/
@[simp] theorem setTrace_arch (s : State) (v : List Event) : (s.setTrace v).toArchState = s.toArchState := rfl
@[simp] theorem setKeys_arch (s : State) (v : List Word32) : (s.setKeys v).toArchState = s.toArchState := rfl
@[simp] theorem setLines_arch (s : State) (v : List (List Byte)) : (s.setLines v).toArchState = s.toArchState := rfl
@[simp] theorem setLineReqs_arch (s : State) (v : Nat) : (s.setLineReqs v).toArchState = s.toArchState := rfl

end Sys2Proof.Machine
end

