-- ==== Sys2Proof/Laws/Ops.lean ====
section
/-! SUPPORT. The shared operations: one lemma each that says everything it can do. -/

namespace Sys2Proof.Machine

/-! ### Flags -/

theorem raiseFlag_eq (s : State) : s.raiseFlag = s.setFlag true := rfl
theorem raiseFlagIf_eq (s : State) (c : Bool) : s.raiseFlagIf c = s.setFlag (s.flag || c) := rfl
theorem writeChecked_eq (s : State) (z : Int) :
    s.writeChecked z = (s.setB (wrap16 z)).setFlag (s.flag || !fits16 z) := rfl

/-- The clamped operand of CMP is the smaller of `L` and 32767. -/
theorem cmpOperand_eq_min (l : Word) : cmpOperand l = min (l.toNat : Int) 32767 := by
  unfold cmpOperand; split <;> omega

/-- The clamped result of CMP always fits. -/
theorem fits16_cmpResult (z : Int) : fits16 (cmpResult z) = true := by
  unfold cmpResult
  split
  · assumption
  · decide

/-! ### The stack component -/

theorem stkPushBytes_of_fits {cap : Nat} {stk bs : List Byte} (h : stk.length + bs.length ≤ cap) :
    stkPushBytes cap stk bs = some (stk ++ bs) := if_neg (by omega)

theorem stkPushBytes_of_full {cap : Nat} {stk bs : List Byte} (h : cap < stk.length + bs.length) :
    stkPushBytes cap stk bs = none := if_pos h

/-- `StkAlloc(n)` is `StkPushBytes` of `n` zero bytes (R173). -/
theorem stkAlloc_eq (cap : Nat) (stk : List Byte) (n : Nat) :
    stkAlloc cap stk n = stkPushBytes cap stk (List.replicate n 0) := by simp [stkAlloc, stkPushBytes]

theorem stkPopVal_of_short {n : Nat} {stk : List Byte} (h : stk.length < n) : stkPopVal n stk = none := if_pos h

/-- A pop takes the bytes a push put on top, as the value they stand for (R171, R172). -/
theorem stkPopVal_append (rest top : List Byte) :
    stkPopVal top.length (rest ++ top) = some (leNat top, rest) := by
  simp [stkPopVal]

/-- The value pushed is the value popped, and the stack is as before (R171: "the one that makes a pop return what was
pushed"). -/
theorem stkPopVal_push (n v : Nat) (stk : List Byte) (h : v < 256 ^ n) :
    stkPopVal n (stk ++ leBytes n v) = some (v, stk) := by
  have := stkPopVal_append stk (leBytes n v)
  rwa [length_leBytes, leNat_leBytes, Nat.mod_eq_of_lt h] at this

theorem stkPopVal_of_enough {n : Nat} {stk : List Byte} (h : n ≤ stk.length) :
    stkPopVal n stk = some (leNat (stk.drop (stk.length - n)), stk.take (stk.length - n)) := if_neg (by omega)

/-- A popped value has the width asked for. -/
theorem stkPopVal_lt {n : Nat} {stk : List Byte} {v : Nat} {rest : List Byte} (h : stkPopVal n stk = some (v, rest)) :
    v < 256 ^ n := by
  rcases Nat.lt_or_ge stk.length n with hs | hs
  · rw [stkPopVal_of_short hs] at h; cases h
  · rw [stkPopVal_of_enough hs] at h
    obtain ⟨rfl, -⟩ : _ ∧ _ := by simpa using h
    have := leNat_lt (stk.drop (stk.length - n))
    rwa [List.length_drop, Nat.sub_sub_self hs] at this

theorem stkDealloc_of_enough {stk : List Byte} {n : Nat} (h : n ≤ stk.length) :
    stkDealloc stk n = some (stk.take (stk.length - n)) := if_neg (by omega)

theorem stkDealloc_of_short {stk : List Byte} {n : Nat} (h : stk.length < n) : stkDealloc stk n = none := if_pos h

/-! ### The engine over the stack -/

@[simp] theorem stkOrFlag_none (s : State) : s.stkOrFlag none = s.setFlag true := rfl
@[simp] theorem stkOrFlag_some (s : State) (k : List Byte) : s.stkOrFlag (some k) = s.setStk k := rfl

/-- A push is whole, or sets FLAG alone (R170, R175). -/
theorem pushBytes_cases (s : State) (bs : List Byte) :
    (s.stk.length + bs.length ≤ s.cfg.stackCap.val ∧ s.pushBytes bs = s.setStk (s.stk ++ bs)) ∨
      (s.cfg.stackCap.val < s.stk.length + bs.length ∧ s.pushBytes bs = s.setFlag true) := by
  rcases Nat.lt_or_ge s.cfg.stackCap.val (s.stk.length + bs.length) with h | h
  · exact .inr ⟨h, by rw [State.pushBytes, stkPushBytes_of_full h]; rfl⟩
  · exact .inl ⟨h, by rw [State.pushBytes, stkPushBytes_of_fits h]; rfl⟩

/-- `pushBytes_cases` at a value of `n` bytes. -/
theorem pushVal_cases (s : State) (n v : Nat) :
    (s.stk.length + n ≤ s.cfg.stackCap.val ∧ s.pushVal n v = s.setStk (s.stk ++ leBytes n v)) ∨
      (s.cfg.stackCap.val < s.stk.length + n ∧ s.pushVal n v = s.setFlag true) := by
  simpa [State.pushVal] using pushBytes_cases s (leBytes n v)

/-- A pop sets FLAG alone, or goes on with the value and the shorter stack (R172, R175). -/
theorem popVal_cases (s : State) (n : Nat) (use : State → Nat → State) :
    (s.stk.length < n ∧ s.popVal n use = s.setFlag true) ∨
      (n ≤ s.stk.length ∧ s.popVal n use =
        use (s.setStk (s.stk.take (s.stk.length - n))) (leNat (s.stk.drop (s.stk.length - n)))) := by
  rcases Nat.lt_or_ge s.stk.length n with h | h
  · exact .inl ⟨h, by rw [State.popVal, stkPopVal_of_short h]; rfl⟩
  · exact .inr ⟨h, by rw [State.popVal, stkPopVal_of_enough h]⟩

/-- A jump does nothing, sets FLAG alone, or jumps (R200). -/
theorem popEpIf_cases (s : State) (cond : Bool) :
    (cond = false ∧ s.popEpIf cond = s) ∨
      (cond = true ∧ s.stk.length < 2 ∧ s.popEpIf cond = s.setFlag true) ∨
      (cond = true ∧ 2 ≤ s.stk.length ∧ s.popEpIf cond =
        (s.setStk (s.stk.take (s.stk.length - 2))).setEp (BitVec.ofNat 16 (leNat (s.stk.drop (s.stk.length - 2))))) := by
  cases cond with
  | false => exact .inl ⟨rfl, rfl⟩
  | true =>
    rcases popVal_cases s 2 (fun t v => t.setEp (BitVec.ofNat 16 v)) with ⟨h, e⟩ | ⟨h, e⟩
    · exact .inr (.inl ⟨rfl, h, e⟩)
    · exact .inr (.inr ⟨rfl, h, e⟩)

/-! ### The string component -/

@[simp] theorem strOrFlag_none (s : State) : s.strOrFlag none = s.setFlag true := rfl
@[simp] theorem strOrFlag_some (s : State) (v : List Byte) : s.strOrFlag (some v) = s.setStr v := rfl

/-- An append is whole, or reports overflow (R230). -/
theorem strAppend_cases (cap : Nat) (str bs : List Byte) :
    (str.length + bs.length ≤ cap ∧ strAppend cap str bs = some (str ++ bs)) ∨
      (cap < str.length + bs.length ∧ strAppend cap str bs = none) := by
  rcases Nat.lt_or_ge cap (str.length + bs.length) with h | h
  · exact .inr ⟨h, if_pos h⟩
  · exact .inl ⟨h, if_neg (by omega)⟩

/-! ### The gate and the ports -/

theorem gate_iff (s : State) : s.gate = true ↔ s.mem.read s.dp = 0x2E := by simp [State.gate, sentinel]

/-- A gated instruction runs its body, or sets FLAG alone (R262). -/
theorem gated_cases (s : State) (body : State → State) :
    (s.gate = true ∧ s.gated body = body s) ∨ (s.gate = false ∧ s.gated body = s.setFlag true) := by
  unfold State.gated
  cases s.gate with
  | true => exact .inl ⟨rfl, rfl⟩
  | false => exact .inr ⟨rfl, rfl⟩

/-- A key is consumed and used, or the instruction is held (R263). -/
theorem takeKey_cases (s : State) (len : Nat) (use : State → Word32 → State) :
    (s.keys = [] ∧ s.takeKey len use = s.setEp (s.ep - BitVec.ofNat 16 len)) ∨
      (∃ c rest, s.keys = c :: rest ∧ s.takeKey len use = use (s.setKeys rest) c) := by
  unfold State.takeKey
  cases h : s.keys with
  | nil => exact .inl ⟨rfl, rfl⟩
  | cons c rest => exact .inr ⟨c, rest, rfl, rfl⟩

/-- A line is a listed one, consumed, or a free one (R264). -/
theorem takeLine_cases (s : State) (use : State → List Byte → State) :
    (s.lines = [] ∧ s.takeLine use = use (s.setLineReqs (s.lineReqs + 1)) (Config.lineAnswer s.lineReqs)) ∨
      (∃ ln rest, s.lines = ln :: rest ∧ s.takeLine use = use (s.setLines rest) ln) := by
  unfold State.takeLine
  cases h : s.lines with
  | nil => exact .inl ⟨rfl, rfl⟩
  | cons ln rest => exact .inr ⟨ln, rest, rfl, rfl⟩

/-- The hold undoes the fetch's advance: the state is that before the step. -/
theorem hold_advance (s : State) (len : Nat) : (s.advance len).hold len = s := by
  simp [State.hold, State.advance, State.setEp]

theorem emit_eq (s : State) (e : Event) : s.emit e = s.setTrace (s.trace ++ [e]) := rfl
theorem advance_eq (s : State) (len : Nat) : s.advance len = s.setEp (s.ep + BitVec.ofNat 16 len) := rfl
theorem takeFault_eq (s : State) (cause : FaultCause) (byte : Byte) :
    s.takeFault cause byte = s.setFault (some { cause := cause, byte := byte, addr := s.ep }) := rfl

/-- A slot write changes the slot, or sets FLAG alone (R215). -/
theorem setSlot_cases (s : State) (idx v : Byte) :
    (idx.toNat < 37 ∧ s.setSlot idx v = s.setR (s.r.set idx.toNat v)) ∨
      (37 ≤ idx.toNat ∧ s.setSlot idx v = s.setFlag true) := by
  rcases Nat.lt_or_ge idx.toNat 37 with h | h
  · exact .inl ⟨h, if_pos h⟩
  · exact .inr ⟨h, if_neg (by simpa [slotCount] using h)⟩

/-! ### The decoder over memory -/

/-- A decode answers an instruction with its length, or one of the two errors of R83. -/
theorem decodeAt_cases (m : Memory) (a : Word) :
    (∃ i, decode (memBytes m a maxLength) = .ok i ∧ decodeAt m a = .ok (i, i.length)) ∨
      (0x54 < (m.read a).toNat ∧ decodeAt m a = .error (.invalidOpcode (m.read a))) ∨
      (m.read a = 0x44 ∧ 4 < (m.read (a + 1)).toNat ∧ decodeAt m a = .error (.invalidChoice (m.read (a + 1)))) := by
  have hb : memBytes m a maxLength = m.read a :: memBytes m (a + 1) 37 := rfl
  have hd : decode (memBytes m a maxLength) = decodeRow (m.read a) (memBytes m (a + 1) 37) := by rw [hb]; rfl
  unfold decodeAt
  rcases Nat.lt_or_ge 0x54 (m.read a).toNat with h | h
  · rw [hd, decodeRow_invalid h]
    exact .inr (.inl ⟨h, rfl⟩)
  · rcases decodeRow_valid h (memBytes m (a + 1) 37) (by simp) with ⟨i, hi⟩ | ⟨hop, x, rest, hx, hlt, he⟩
    · exact .inl ⟨i, hd.trans hi, by rw [hd, hi]⟩
    · have hx' : m.read (a + 1) = x := (List.cons.inj hx).1
      rw [hd, he, ← hx']
      exact .inr (.inr ⟨hop, hx' ▸ hlt, rfl⟩)

/-- The decoder over memory is never short of bytes. -/
theorem decodeAt_ne_truncated (m : Memory) (a : Word) : decodeAt m a ≠ .error .truncated := by
  rcases decodeAt_cases m a with ⟨i, -, h⟩ | ⟨-, h⟩ | ⟨-, -, h⟩ <;> rw [h] <;> simp

/-- What a decode of memory answers is an instruction with its length. -/
theorem decodeAt_length {m : Memory} {a : Word} {i : Instr} {n : Nat} (h : decodeAt m a = .ok (i, n)) :
    n = i.length := by
  rcases decodeAt_cases m a with ⟨j, -, e⟩ | ⟨-, e⟩ | ⟨-, -, e⟩ <;> rw [e] at h <;> cases h
  rfl

/-! ### One step -/

/-- Everything a step that answers a next state can have done: run the decoded instruction, or take a fault. -/
theorem step_next_cases {s t : State} (h : step s = .next t) :
    s.halted = false ∧ s.fault = none ∧
      ((∃ i n, decodeAt s.mem s.ep = .ok (i, n) ∧ exec i (s.advance n) = .next t) ∨
        (∃ op, decodeAt s.mem s.ep = .error (.invalidOpcode op) ∧ t = s.takeFault .invalidOpcode op) ∨
        (∃ b, decodeAt s.mem s.ep = .error (.invalidChoice b) ∧ t = s.takeFault .invalidChoice b)) := by
  unfold step at h
  split at h
  · cases h
  · rename_i hh
    refine ⟨by simpa using hh, ?_⟩
    split at h
    · cases h
    · rename_i hf
      refine ⟨hf, ?_⟩
      split at h
      · rename_i i n hd; exact .inl ⟨i, n, hd, h⟩
      · rename_i op hd; exact .inr (.inl ⟨op, hd, by cases h; rfl⟩)
      · rename_i b hd; exact .inr (.inr ⟨b, hd, by cases h; rfl⟩)
      · cases h

end Sys2Proof.Machine
end

