-- ==== Sys2Proof/Laws/PerInstr.lean ====
section
/-! SUPPORT. Statements for all instructions, one lemma per constructor. -/

namespace Sys2Proof

/-- The encoder writes exactly as many bytes as the instruction is long (spec `30_encoding.md` R88: "advances cursor
identically"). -/
def Laws.EncodedLength.Statement (i : Instr) : Prop := i.wf = true → (encode i).length = i.length

theorem Laws.EncodedLength.nop : Laws.EncodedLength.Statement .nop := fun _ => rfl
theorem Laws.EncodedLength.doom : Laws.EncodedLength.Statement .doom := fun _ => rfl
theorem Laws.EncodedLength.concl : Laws.EncodedLength.Statement .concl := fun _ => rfl
theorem Laws.EncodedLength.clf : Laws.EncodedLength.Statement .clf := fun _ => rfl
theorem Laws.EncodedLength.tgf : Laws.EncodedLength.Statement .tgf := fun _ => rfl
theorem Laws.EncodedLength.setdp (addr : Word) : Laws.EncodedLength.Statement (.setdp addr) := fun _ => rfl
theorem Laws.EncodedLength.add : Laws.EncodedLength.Statement .add := fun _ => rfl
theorem Laws.EncodedLength.sub : Laws.EncodedLength.Statement .sub := fun _ => rfl
theorem Laws.EncodedLength.mul : Laws.EncodedLength.Statement .mul := fun _ => rfl
theorem Laws.EncodedLength.div : Laws.EncodedLength.Statement .div := fun _ => rfl
theorem Laws.EncodedLength.mod : Laws.EncodedLength.Statement .mod := fun _ => rfl
theorem Laws.EncodedLength.not : Laws.EncodedLength.Statement .not := fun _ => rfl
theorem Laws.EncodedLength.and : Laws.EncodedLength.Statement .and := fun _ => rfl
theorem Laws.EncodedLength.or : Laws.EncodedLength.Statement .or := fun _ => rfl
theorem Laws.EncodedLength.xor : Laws.EncodedLength.Statement .xor := fun _ => rfl
theorem Laws.EncodedLength.cmp : Laws.EncodedLength.Statement .cmp := fun _ => rfl
theorem Laws.EncodedLength.ldai (imm : Byte) : Laws.EncodedLength.Statement (.ldai imm) := fun _ => rfl
theorem Laws.EncodedLength.ldam (addr : Word) : Laws.EncodedLength.Statement (.ldam addr) := fun _ => rfl
theorem Laws.EncodedLength.stam (addr : Word) : Laws.EncodedLength.Statement (.stam addr) := fun _ => rfl
theorem Laws.EncodedLength.ldbi (imm : Word) : Laws.EncodedLength.Statement (.ldbi imm) := fun _ => rfl
theorem Laws.EncodedLength.ldbm (addr : Word) : Laws.EncodedLength.Statement (.ldbm addr) := fun _ => rfl
theorem Laws.EncodedLength.stbm (addr : Word) : Laws.EncodedLength.Statement (.stbm addr) := fun _ => rfl
theorem Laws.EncodedLength.ldli (imm : Word) : Laws.EncodedLength.Statement (.ldli imm) := fun _ => rfl
theorem Laws.EncodedLength.ldlm (addr : Word) : Laws.EncodedLength.Statement (.ldlm addr) := fun _ => rfl
theorem Laws.EncodedLength.stlm (addr : Word) : Laws.EncodedLength.Statement (.stlm addr) := fun _ => rfl
theorem Laws.EncodedLength.ldnumi (imm : Word32) : Laws.EncodedLength.Statement (.ldnumi imm) := fun _ => rfl
theorem Laws.EncodedLength.salloc (n : Word) : Laws.EncodedLength.Statement (.salloc n) := fun _ => rfl
theorem Laws.EncodedLength.sdealloc (n : Word) : Laws.EncodedLength.Statement (.sdealloc n) := fun _ => rfl
theorem Laws.EncodedLength.pushi (imm : Byte) : Laws.EncodedLength.Statement (.pushi imm) := fun _ => rfl
theorem Laws.EncodedLength.pushw (imm : Word) : Laws.EncodedLength.Statement (.pushw imm) := fun _ => rfl
theorem Laws.EncodedLength.pushm (addr : Word) : Laws.EncodedLength.Statement (.pushm addr) := fun _ => rfl
theorem Laws.EncodedLength.popm (addr : Word) : Laws.EncodedLength.Statement (.popm addr) := fun _ => rfl
theorem Laws.EncodedLength.pusha : Laws.EncodedLength.Statement .pusha := fun _ => rfl
theorem Laws.EncodedLength.popa : Laws.EncodedLength.Statement .popa := fun _ => rfl
theorem Laws.EncodedLength.pushb : Laws.EncodedLength.Statement .pushb := fun _ => rfl
theorem Laws.EncodedLength.popb : Laws.EncodedLength.Statement .popb := fun _ => rfl
theorem Laws.EncodedLength.pushl : Laws.EncodedLength.Statement .pushl := fun _ => rfl
theorem Laws.EncodedLength.popl : Laws.EncodedLength.Statement .popl := fun _ => rfl
theorem Laws.EncodedLength.pushf : Laws.EncodedLength.Statement .pushf := fun _ => rfl
theorem Laws.EncodedLength.popf : Laws.EncodedLength.Statement .popf := fun _ => rfl
theorem Laws.EncodedLength.pushch : Laws.EncodedLength.Statement .pushch := fun _ => rfl
theorem Laws.EncodedLength.popch : Laws.EncodedLength.Statement .popch := fun _ => rfl
theorem Laws.EncodedLength.pushnum : Laws.EncodedLength.Statement .pushnum := fun _ => rfl
theorem Laws.EncodedLength.popnum : Laws.EncodedLength.Statement .popnum := fun _ => rfl
theorem Laws.EncodedLength.pushs : Laws.EncodedLength.Statement .pushs := fun _ => rfl
theorem Laws.EncodedLength.pep : Laws.EncodedLength.Statement .pep := fun _ => rfl
theorem Laws.EncodedLength.pepz : Laws.EncodedLength.Statement .pepz := fun _ => rfl
theorem Laws.EncodedLength.pepp : Laws.EncodedLength.Statement .pepp := fun _ => rfl
theorem Laws.EncodedLength.pepn : Laws.EncodedLength.Statement .pepn := fun _ => rfl
theorem Laws.EncodedLength.pepf : Laws.EncodedLength.Statement .pepf := fun _ => rfl
theorem Laws.EncodedLength.pepaz : Laws.EncodedLength.Statement .pepaz := fun _ => rfl
theorem Laws.EncodedLength.pepd : Laws.EncodedLength.Statement .pepd := fun _ => rfl
theorem Laws.EncodedLength.rclr : Laws.EncodedLength.Statement .rclr := fun _ => rfl
theorem Laws.EncodedLength.rldi (v : List Byte) : Laws.EncodedLength.Statement (.rldi v) := fun h => by simpa [encode, Instr.length, Instr.wf] using h
theorem Laws.EncodedLength.rldm (addr : Word) : Laws.EncodedLength.Statement (.rldm addr) := fun _ => rfl
theorem Laws.EncodedLength.rstm (addr : Word) : Laws.EncodedLength.Statement (.rstm addr) := fun _ => rfl
theorem Laws.EncodedLength.rget (idx : Byte) : Laws.EncodedLength.Statement (.rget idx) := fun _ => rfl
theorem Laws.EncodedLength.rset (idx : Byte) : Laws.EncodedLength.Statement (.rset idx) := fun _ => rfl
theorem Laws.EncodedLength.rseti (idx : Byte) (imm : Byte) : Laws.EncodedLength.Statement (.rseti idx imm) := fun _ => rfl
theorem Laws.EncodedLength.rcpm (idx : Byte) (cnt : Byte) (addr : Word) : Laws.EncodedLength.Statement (.rcpm idx cnt addr) := fun _ => rfl
theorem Laws.EncodedLength.sclr : Laws.EncodedLength.Statement .sclr := fun _ => rfl
theorem Laws.EncodedLength.sldm (addr : Word) : Laws.EncodedLength.Statement (.sldm addr) := fun _ => rfl
theorem Laws.EncodedLength.sstm (addr : Word) : Laws.EncodedLength.Statement (.sstm addr) := fun _ => rfl
theorem Laws.EncodedLength.sapp : Laws.EncodedLength.Statement .sapp := fun _ => rfl
theorem Laws.EncodedLength.sappm (addr : Word) (n : Byte) : Laws.EncodedLength.Statement (.sappm addr n) := fun _ => by simp [encode, Instr.length]
theorem Laws.EncodedLength.sget (idx : Byte) : Laws.EncodedLength.Statement (.sget idx) := fun _ => rfl
theorem Laws.EncodedLength.sset (idx : Byte) : Laws.EncodedLength.Statement (.sset idx) := fun _ => rfl
theorem Laws.EncodedLength.slen : Laws.EncodedLength.Statement .slen := fun _ => rfl
theorem Laws.EncodedLength.chset (c : Choice) : Laws.EncodedLength.Statement (.chset c) := fun _ => rfl
theorem Laws.EncodedLength.chgeta : Laws.EncodedLength.Statement .chgeta := fun _ => rfl
theorem Laws.EncodedLength.cntinc : Laws.EncodedLength.Statement .cntinc := fun _ => rfl
theorem Laws.EncodedLength.cntdec : Laws.EncodedLength.Statement .cntdec := fun _ => rfl
theorem Laws.EncodedLength.pushcnt : Laws.EncodedLength.Statement .pushcnt := fun _ => rfl
theorem Laws.EncodedLength.latset : Laws.EncodedLength.Statement .latset := fun _ => rfl
theorem Laws.EncodedLength.latclr : Laws.EncodedLength.Statement .latclr := fun _ => rfl
theorem Laws.EncodedLength.getch : Laws.EncodedLength.Statement .getch := fun _ => rfl
theorem Laws.EncodedLength.getln : Laws.EncodedLength.Statement .getln := fun _ => rfl
theorem Laws.EncodedLength.wrch : Laws.EncodedLength.Statement .wrch := fun _ => rfl
theorem Laws.EncodedLength.wrlns : Laws.EncodedLength.Statement .wrlns := fun _ => rfl
theorem Laws.EncodedLength.wrlnm (addr : Word) : Laws.EncodedLength.Statement (.wrlnm addr) := fun _ => rfl
theorem Laws.EncodedLength.tgdbg : Laws.EncodedLength.Statement .tgdbg := fun _ => rfl
theorem Laws.EncodedLength.dbgst : Laws.EncodedLength.Statement .dbgst := fun _ => rfl
theorem Laws.EncodedLength.dbgstc : Laws.EncodedLength.Statement .dbgstc := fun _ => rfl
theorem Laws.EncodedLength.dbgmem (start : Word) (stop : Word) : Laws.EncodedLength.Statement (.dbgmem start stop) := fun _ => by simp [encode, Instr.length]
theorem Laws.EncodedLength.dbgstk (start : Word) (stop : Word) : Laws.EncodedLength.Statement (.dbgstk start stop) := fun _ => by simp [encode, Instr.length]

end Sys2Proof
end

