-- ==== Sys2Proof/Laws/Run.lean ====
section
/-! SUPPORT. The run loop of Machine/Run.lean: what one turn of it does. -/

namespace Sys2Proof.Machine

@[simp] theorem runFrom_zero (s : State) : runFrom 0 s = s.result := rfl

/-- A turn of the loop from a state that has a step. -/
theorem runFrom_succ_of_next {s t : State} (h : step s = .next t) (k : Nat) : runFrom (k + 1) s = runFrom k t := by
  simp [runFrom, h]

/-- The loop in a state that has no step. -/
theorem runFrom_of_not_next {s : State} (h : ∀ t, step s ≠ .next t) (k : Nat) : runFrom k s = s.result := by
  cases k with
  | zero => rfl
  | succ k =>
    unfold runFrom
    split
    · exact absurd ‹_› (h _)
    · rfl
    · rfl

/-- Everything the result of a state can be. -/
theorem result_cases (s : State) :
    (∃ rec, s.fault = some rec ∧ s.result = some (.abort rec s)) ∨
      (s.fault = none ∧ s.halted = true ∧ s.result = some (.exit s.a s)) ∨
      (s.fault = none ∧ s.halted = false ∧ s.result = none) := by
  unfold State.result State.status
  cases hf : s.fault <;> cases hh : s.halted <;> simp

@[simp] theorem runStart_toArchState (p : Params) (image : Memory) (keys : List Word32) (lines : List (List Byte)) :
    (runStart p image keys lines).toArchState = (State.boot p image).toArchState := rfl
@[simp] theorem runStart_cfg (p : Params) (image : Memory) (keys : List Word32) (lines : List (List Byte)) :
    (runStart p image keys lines).cfg = p := rfl
@[simp] theorem runStart_keys (p : Params) (image : Memory) (keys : List Word32) (lines : List (List Byte)) :
    (runStart p image keys lines).keys = keys := rfl
@[simp] theorem runStart_lines (p : Params) (image : Memory) (keys : List Word32) (lines : List (List Byte)) :
    (runStart p image keys lines).lines = lines := rfl
@[simp] theorem runStart_trace (p : Params) (image : Memory) (keys : List Word32) (lines : List (List Byte)) :
    (runStart p image keys lines).trace = [] := rfl

end Sys2Proof.Machine
end

