-- ==== Sys2Proof/Tests/Slice0.lean ====
section
/-! SUPPORT. Tests: decoding against the encoding table of spec `30_encoding.md`, one step each against the vectors of
spec `95_test_vectors.md` (named `V<n>` there, and beside each test here), and a witness for the hypotheses of every
statement that has some. -/

namespace Sys2Proof.Tests

open Sys2Proof.Machine Sys2Proof.Claims

/-! ### Helpers -/

/-- The reset state at the address most vectors start from. -/
def start : State := { State.reset with ep := 0x0100 }

/-- `start` with the gate open: DP = 0x6FF1 and the sentinel there. -/
def opened : State := { start with dp := 0x6FF1, mem := [(0x6FF1, 0x2E)] }

/-- `start` with the gate closed: DP = 0x6FF1 and no sentinel there. -/
def closed : State := { start with dp := 0x6FF1 }

/-- `start` with capacities of two bytes. -/
def small : State := { start with cfg := { stackCap := 2, strCap := 2, verbose := false } }

/-- Store the bytes at EP, take one step, and check the next state. -/
def after (s : State) (bs : List Byte) (check : State → Bool) : Bool :=
  match step (s.setMem (memWriteBytes s.mem s.ep bs)) with
  | .next t => check t
  | .fault _ | .refused _ => false

/-- Store bytes elsewhere first. -/
def poke (s : State) (a : Word) (bs : List Byte) : State := s.setMem (memWriteBytes s.mem a bs)

/-- FLAG set, EP at `a`. -/
def flagged (a : Word) (t : State) : Bool := t.flag && t.ep == a

/-! ### Well-formedness -/

theorem test_wf_rldi_37 : (Instr.rldi (List.replicate 37 0)).wf = true := by decide
theorem test_wf_rldi_36_refused : (Instr.rldi (List.replicate 36 0)).wf = false := by decide
theorem test_wf_rldi_38_refused : (Instr.rldi (List.replicate 38 0)).wf = false := by decide

/-! ### Decoding: every row of R90, its bytes written out from the table -/

theorem test_decode_control :
    decode [0x00] = .ok .nop ∧ decode [0x01] = .ok .doom ∧ decode [0x02] = .ok .concl ∧ decode [0x03] = .ok .clf ∧
    decode [0x04] = .ok .tgf ∧ decode [0x05, 0x6F, 0xF1] = .ok (.setdp 0x6FF1) := by
  refine ⟨?_, ?_, ?_, ?_, ?_, ?_⟩ <;> rfl
theorem test_decode_alu :
    decode [0x06] = .ok .add ∧ decode [0x07] = .ok .sub ∧ decode [0x08] = .ok .mul ∧ decode [0x09] = .ok .div ∧
    decode [0x0A] = .ok .mod ∧ decode [0x0B] = .ok .not ∧ decode [0x0C] = .ok .and ∧ decode [0x0D] = .ok .or ∧
    decode [0x0E] = .ok .xor ∧ decode [0x0F] = .ok .cmp := by
  refine ⟨?_, ?_, ?_, ?_, ?_, ?_, ?_, ?_, ?_, ?_⟩ <;> rfl
theorem test_decode_regmove :
    decode [0x10, 0x2A] = .ok (.ldai 0x2A) ∧ decode [0x11, 0x12, 0x34] = .ok (.ldam 0x1234) ∧
    decode [0x12, 0x6F, 0xF1] = .ok (.stam 0x6FF1) ∧ decode [0x13, 0xFF, 0xFD] = .ok (.ldbi 0xFFFD) ∧
    decode [0x14, 0x02, 0x01] = .ok (.ldbm 0x0201) ∧ decode [0x15, 0xFF, 0xFE] = .ok (.stbm 0xFFFE) ∧
    decode [0x16, 0x00, 0x01] = .ok (.ldli 0x0001) ∧ decode [0x17, 0x80, 0x01] = .ok (.ldlm 0x8001) ∧
    decode [0x18, 0x01, 0x80] = .ok (.stlm 0x0180) ∧
    decode [0x19, 0x12, 0x34, 0x56, 0x78] = .ok (.ldnumi 0x12345678) := by
  refine ⟨?_, ?_, ?_, ?_, ?_, ?_, ?_, ?_, ?_, ?_⟩ <;> rfl
theorem test_decode_stack :
    decode [0x1A, 0x0F, 0xFF] = .ok (.salloc 0x0FFF) ∧ decode [0x1B, 0x00, 0x02] = .ok (.sdealloc 2) ∧
    decode [0x1C, 0x07] = .ok (.pushi 7) ∧ decode [0x1D, 0x12, 0x34] = .ok (.pushw 0x1234) ∧
    decode [0x1E, 0x02, 0x01] = .ok (.pushm 0x0201) ∧ decode [0x1F, 0x03, 0x04] = .ok (.popm 0x0304) ∧
    decode [0x20] = .ok .pusha ∧ decode [0x21] = .ok .popa ∧ decode [0x22] = .ok .pushb ∧ decode [0x23] = .ok .popb ∧
    decode [0x24] = .ok .pushl ∧ decode [0x25] = .ok .popl ∧ decode [0x26] = .ok .pushf ∧ decode [0x27] = .ok .popf ∧
    decode [0x28] = .ok .pushch ∧ decode [0x29] = .ok .popch ∧ decode [0x2A] = .ok .pushnum ∧
    decode [0x2B] = .ok .popnum ∧ decode [0x2C] = .ok .pushs := by
  refine ⟨?_, ?_, ?_, ?_, ?_, ?_, ?_, ?_, ?_, ?_, ?_, ?_, ?_, ?_, ?_, ?_, ?_, ?_, ?_⟩ <;> rfl
theorem test_decode_jumps :
    decode [0x2D] = .ok .pep ∧ decode [0x2E] = .ok .pepz ∧ decode [0x2F] = .ok .pepp ∧ decode [0x30] = .ok .pepn ∧
    decode [0x31] = .ok .pepf ∧ decode [0x32] = .ok .pepaz ∧ decode [0x33] = .ok .pepd := by
  refine ⟨?_, ?_, ?_, ?_, ?_, ?_, ?_⟩ <;> rfl
theorem test_decode_array :
    decode [0x34] = .ok .rclr ∧ decode [0x36, 0x04, 0x05] = .ok (.rldm 0x0405) ∧
    decode [0x37, 0x05, 0x06] = .ok (.rstm 0x0506) ∧ decode [0x38, 0x24] = .ok (.rget 36) ∧
    decode [0x39, 0x24] = .ok (.rset 36) ∧ decode [0x3A, 0x02, 0xFE] = .ok (.rseti 2 0xFE) ∧
    decode [0x3B, 0x04, 0x02, 0x06, 0x01] = .ok (.rcpm 4 2 0x0601) := by
  refine ⟨?_, ?_, ?_, ?_, ?_, ?_, ?_⟩ <;> rfl
theorem test_decode_string :
    decode [0x3C] = .ok .sclr ∧ decode [0x3D, 0x07, 0x01] = .ok (.sldm 0x0701) ∧
    decode [0x3E, 0x08, 0x01] = .ok (.sstm 0x0801) ∧ decode [0x3F] = .ok .sapp ∧
    decode [0x40, 0x09, 0x01, 0x02] = .ok (.sappm 0x0901 2) ∧ decode [0x41, 0x01] = .ok (.sget 1) ∧
    decode [0x42, 0x02] = .ok (.sset 2) ∧ decode [0x43] = .ok .slen := by
  refine ⟨?_, ?_, ?_, ?_, ?_, ?_, ?_, ?_⟩ <;> rfl
theorem test_decode_flags :
    decode [0x44, 0x00] = .ok (.chset .depth0) ∧ decode [0x44, 0x01] = .ok (.chset .depth1) ∧
    decode [0x44, 0x02] = .ok (.chset .depth2) ∧ decode [0x44, 0x03] = .ok (.chset .depth3) ∧
    decode [0x44, 0x04] = .ok (.chset .depth4) ∧ decode [0x45] = .ok .chgeta ∧ decode [0x46] = .ok .cntinc ∧
    decode [0x47] = .ok .cntdec ∧ decode [0x48] = .ok .pushcnt ∧ decode [0x49] = .ok .latset ∧
    decode [0x4A] = .ok .latclr := by
  refine ⟨?_, ?_, ?_, ?_, ?_, ?_, ?_, ?_, ?_, ?_, ?_⟩ <;> rfl
theorem test_decode_io :
    decode [0x4B] = .ok .getch ∧ decode [0x4C] = .ok .getln ∧ decode [0x4D] = .ok .wrch ∧
    decode [0x4E] = .ok .wrlns ∧ decode [0x4F, 0x00, 0x0C] = .ok (.wrlnm 0x000C) := by
  refine ⟨?_, ?_, ?_, ?_, ?_⟩ <;> rfl
theorem test_decode_debug :
    decode [0x50] = .ok .tgdbg ∧ decode [0x51] = .ok .dbgst ∧ decode [0x52] = .ok .dbgstc ∧
    decode [0x53, 0x00, 0x10, 0x00, 0x13] = .ok (.dbgmem 0x0010 0x0013) ∧
    decode [0x54, 0x01, 0x02, 0x03, 0x04] = .ok (.dbgstk 0x0102 0x0304) := by
  refine ⟨?_, ?_, ?_, ?_, ?_⟩ <;> rfl
theorem test_decode_rldi : decode (0x35 :: 0x01 :: 0xFF :: 0x80 :: (List.replicate 33 0 ++ [0x7F])) =
    .ok (.rldi (0x01 :: 0xFF :: 0x80 :: (List.replicate 33 0 ++ [0x7F]))) := by rfl
theorem test_decode_invalid_opcode : decode [0x55] = .error (.invalidOpcode 0x55) ∧
    decode [0xFF] = .error (.invalidOpcode 0xFF) := by exact ⟨rfl, rfl⟩
theorem test_decode_invalid_choice : decode [0x44, 0x05] = .error (.invalidChoice 0x05) ∧
    decode [0x44, 0xFF] = .error (.invalidChoice 0xFF) := by exact ⟨rfl, rfl⟩
theorem test_encode_rcpm : encode (.rcpm 4 2 0x0601) = [0x3B, 0x04, 0x02, 0x06, 0x01] := by decide
theorem test_encode_ldnumi : encode (.ldnumi 0xFFFFFFFE) = [0x19, 0xFF, 0xFF, 0xFF, 0xFE] := by decide

/-- The table's bits: the opcode is the low byte, a later byte's bits count on; what the table does not give is 0. -/
theorem test_decodeTableWord : decodeTableWord 24 0xF16F05 = some (.setdp 0x6FF1) ∧
    decodeTableWord 8 0x35 = some (.rldi (List.replicate 37 0)) ∧ decodeTableWord 8 0x55 = none := by
  refine ⟨?_, ?_, ?_⟩ <;> rfl

theorem test_withFetchWord : (match step (State.reset.withFetchWord 16 0x2A10) with
    | .next t => t.a == 42 && t.ep == 2
    | .fault _ | .refused _ => false) = true := by decide

/-! ### One step each -/

/-- V1. -/
theorem test_nop : after ({ State.reset with ep := 0x0010 }) [0x00] (fun t => t.ep == 0x0011) = true := by decide
/-- V2. -/
theorem test_doom : after start [0x01] (fun t => t.doom && t.ep == 0x0101) = true := by decide
/-- V4. -/
theorem test_concl_halts : after ({ start with doom := true, a := 7 }) [0x02]
    (fun t => t.halted && t.a == 7) = true := by decide
/-- V5. -/
theorem test_concl_without_doom : after start [0x02] (fun t => !t.halted && t.ep == 0x0101) = true := by decide
/-- V6. -/
theorem test_clf : after ({ start with flag := true }) [0x03] (fun t => !t.flag && t.ep == 0x0101) = true := by decide
/-- V7. -/
theorem test_tgf_sets : after start [0x04] (fun t => t.flag) = true := by decide
/-- V8. -/
theorem test_tgf_clears : after ({ start with flag := true }) [0x04] (fun t => !t.flag) = true := by decide
/-- V9. -/
theorem test_setdp_accepts : after start [0x05, 0x6F, 0xF1]
    (fun t => t.dp == 0x6FF1 && t.ep == 0x0103) = true := by decide
/-- V10. -/
theorem test_setdp_rejects : after ({ start with dp := 0x6FF1 }) [0x05, 0x00, 0x04]
    (fun t => t.flag && t.dp == 0x6FF1) = true := by decide
/-- V21. -/
theorem test_add_negative : after ({ start with b := 5, l := 0xFFFF }) [0x06]
    (fun t => t.b == 4 && t.flag == false) = true := by decide
/-- V22. -/
theorem test_add_overflow : after ({ start with b := 32767, l := 1 }) [0x06]
    (fun t => t.b == 0x8000 && t.flag == true) = true := by decide
/-- V26. -/
theorem test_sub_overflow : after ({ start with b := 0x8000, l := 1 }) [0x07]
    (fun t => t.b == 32767 && t.flag == true) = true := by decide
/-- V29. -/
theorem test_sub_min : after ({ start with b := 0x8000, l := 0xFFFF }) [0x07]
    (fun t => t.b == 0x8001 && t.flag == false) = true := by decide
/-- V34. -/
theorem test_mul_overflow : after ({ start with b := 182, l := 0x00B6 }) [0x08]
    (fun t => t.b == 33124 && t.flag == true) = true := by decide
/-- V30. -/
theorem test_mul_negative : after ({ start with b := 0xFFFD, l := 7 }) [0x08]
    (fun t => t.b == 0xFFEB && t.flag == false) = true := by decide
/-- V38. -/
theorem test_div_truncates : after ({ start with b := 0xFFF9, l := 2 }) [0x09]
    (fun t => t.b == 0xFFFD && t.flag == false) = true := by decide
/-- V42. -/
theorem test_div_min_by_minus_one : after ({ start with b := 0x8000, l := 0xFFFF }) [0x09]
    (fun t => t.b == 0x8000 && t.flag == false) = true := by decide
/-- V49. -/
theorem test_mod_sign_of_dividend : after ({ start with b := 7, l := 0xFFFE }) [0x0A]
    (fun t => t.b == 1 && t.flag == false) = true := by decide
/-- V54. -/
theorem test_mod_by_zero : after ({ start with b := 5, l := 0 }) [0x0A]
    (fun t => t.b == 0 && t.flag == false) = true := by decide
/-- V59. -/
theorem test_not : after ({ start with b := 255, l := 0x1234 }) [0x0B]
    (fun t => t.b == 0xFF00 && t.flag == false) = true := by decide
/-- V60. -/
theorem test_and : after ({ start with b := 0xFFFF, l := 0x0F0F }) [0x0C]
    (fun t => t.b == 3855 && t.flag == false) = true := by decide
/-- V63. -/
theorem test_or : after ({ start with b := 1, l := 0x8000 }) [0x0D]
    (fun t => t.b == 0x8001 && t.flag == false) = true := by decide
/-- V65. -/
theorem test_xor : after ({ start with b := 255, l := 0x0F0F }) [0x0E]
    (fun t => t.b == 4080 && t.flag == false) = true := by decide
/-- V72. -/
theorem test_cmp_both_clamps : after ({ start with b := 0xFFFE, l := 0xFFFF }) [0x0F]
    (fun t => t.b == 32767 && t.flag == true) = true := by decide
/-- V75. -/
theorem test_cmp_lowest : after ({ start with b := 0xFFFF, l := 0x7FFF }) [0x0F]
    (fun t => t.b == 0x8000 && t.flag == false) = true := by decide
/-- V100. -/
theorem test_ldai : after start [0x10, 0x2A] (fun t => t.a == 42 && t.ep == 0x0102) = true := by decide
/-- V101. -/
theorem test_ldam : after (poke start 0x1234 [0x99]) [0x11, 0x12, 0x34] (fun t => t.a == 153) = true := by decide
/-- V103. -/
theorem test_stam : after ({ start with a := 0x2E }) [0x12, 0x6F, 0xF1]
    (fun t => t.mem.read 0x6FF1 == 0x2E && t.ep == 0x0103) = true := by decide
/-- V105. -/
theorem test_ldbi : after start [0x13, 0xFF, 0xFD] (fun t => t.b.toInt == -3) = true := by decide
/-- V108. -/
theorem test_ldbm_wraps : after (poke start 0xFFFF [0x12, 0x34]) [0x14, 0xFF, 0xFF]
    (fun t => t.b == 0x1234) = true := by decide
/-- V109. -/
theorem test_stbm_wraps : after ({ start with b := 0xFFFE }) [0x15, 0xFF, 0xFF]
    (fun t => t.mem.read 0xFFFF == 0xFF && t.mem.read 0 == 0xFE) = true := by decide
/-- V110. -/
theorem test_ldli : after start [0x16, 0x00, 0x01] (fun t => t.l == 1) = true := by decide
/-- V111. -/
theorem test_ldlm : after (poke start 0x0200 [0x80, 0x00]) [0x17, 0x02, 0x00]
    (fun t => t.l == 32768) = true := by decide
/-- V112. -/
theorem test_stlm : after ({ start with l := 0x1234 }) [0x18, 0x02, 0x00]
    (fun t => t.mem.read 0x0200 == 0x12 && t.mem.read 0x0201 == 0x34) = true := by decide
/-- V114. -/
theorem test_ldnumi_minimum : after start [0x19, 0x80, 0x00, 0x00, 0x00]
    (fun t => t.num.toInt == -2147483648 && t.ep == 0x0105) = true := by decide
/-- V130. -/
theorem test_salloc : after start [0x1A, 0x00, 0x03] (fun t => t.stk == [0, 0, 0]) = true := by decide
/-- V131. -/
theorem test_salloc_overflow : after start [0x1A, 0x10, 0x00]
    (fun t => t.stk == [] && flagged 0x0103 t) = true := by decide
/-- V134. -/
theorem test_sdealloc : after ({ start with stk := [1, 2, 3] }) [0x1B, 0x00, 0x02]
    (fun t => t.stk == [1]) = true := by decide
/-- V135. -/
theorem test_sdealloc_underflow : after ({ start with stk := [1, 2, 3] }) [0x1B, 0x00, 0x04]
    (fun t => t.stk == [1, 2, 3] && flagged 0x0103 t) = true := by decide
/-- V137. -/
theorem test_pushi : after start [0x1C, 0x07] (fun t => t.stk == [7]) = true := by decide
/-- V138. -/
theorem test_pushi_full : after ({ small with stk := [1, 2] }) [0x1C, 0x07]
    (fun t => t.stk == [1, 2] && flagged 0x0102 t) = true := by decide
/-- V140. -/
theorem test_pushw : after start [0x1D, 0x12, 0x34] (fun t => t.stk == [0x34, 0x12]) = true := by decide
/-- V142. -/
theorem test_pushm : after (poke start 0x0200 [0xAB]) [0x1E, 0x02, 0x00]
    (fun t => t.stk == [0xAB]) = true := by decide
/-- V143. -/
theorem test_popm : after ({ start with stk := [5, 9] }) [0x1F, 0x03, 0x00]
    (fun t => t.stk == [5] && t.mem.read 0x0300 == 9) = true := by decide
/-- V144. -/
theorem test_popm_empty : after (poke start 0x0300 [0x77]) [0x1F, 0x03, 0x00]
    (fun t => t.mem.read 0x0300 == 0x77 && flagged 0x0103 t) = true := by decide
/-- V145. -/
theorem test_pusha : after ({ start with a := 0x41 }) [0x20] (fun t => t.stk == [0x41]) = true := by decide
/-- V146. -/
theorem test_popa : after ({ start with stk := [1, 2] }) [0x21]
    (fun t => t.a == 2 && t.stk == [1]) = true := by decide
/-- V147. -/
theorem test_popa_empty : after ({ start with a := 9 }) [0x21]
    (fun t => t.a == 9 && flagged 0x0101 t) = true := by decide
/-- V148. -/
theorem test_pushb : after ({ start with b := 0xFFFE }) [0x22] (fun t => t.stk == [0xFE, 0xFF]) = true := by decide
/-- V149. -/
theorem test_popb : after ({ start with stk := [0x34, 0x12] }) [0x23]
    (fun t => t.b == 4660 && t.stk == []) = true := by decide
/-- V150. -/
theorem test_popb_one_byte : after ({ start with stk := [0x34], b := 5 }) [0x23]
    (fun t => t.b == 5 && t.stk == [0x34] && t.flag) = true := by decide
/-- V151. -/
theorem test_pushl : after ({ start with l := 0x8001 }) [0x24] (fun t => t.stk == [0x01, 0x80]) = true := by decide
/-- V152. -/
theorem test_popl : after ({ start with stk := [0xFF, 0x00] }) [0x25] (fun t => t.l == 255) = true := by decide
/-- V153. -/
theorem test_pushf : after ({ start with f := 0x3FF0000000000000 }) [0x26]
    (fun t => t.stk == [0, 0, 0, 0, 0, 0, 0xF0, 0x3F]) = true := by decide
/-- V155. -/
theorem test_popf : after ({ start with stk := [0, 0, 0, 0, 0, 0, 0xF8, 0x7F] }) [0x27]
    (fun t => t.f == 0x7FF8000000000000) = true := by decide
/-- V157. -/
theorem test_pushch : after ({ start with ch := 0x41 }) [0x28] (fun t => t.stk == [0x41, 0, 0, 0]) = true := by decide
/-- V161. -/
theorem test_popch : after ({ start with stk := [0xFF, 0xFF, 0x10, 0] }) [0x29]
    (fun t => t.ch == 0x10FFFF && t.stk == []) = true := by decide
/-- V159. -/
theorem test_popch_surrogate : after ({ start with stk := [0x00, 0xD8, 0, 0], ch := 0x42 }) [0x29]
    (fun t => t.ch == 0x42 && t.stk.length == 4 && t.flag) = true := by decide
/-- V163. -/
theorem test_pushnum : after ({ start with num := 0xFFFFFFFE }) [0x2A]
    (fun t => t.stk == [0xFE, 0xFF, 0xFF, 0xFF]) = true := by decide
/-- V165. -/
theorem test_popnum : after ({ start with stk := [0xFE, 0xFF, 0xFF, 0xFF] }) [0x2B]
    (fun t => t.num.toInt == -2) = true := by decide
/-- V166. -/
theorem test_pushs : after ({ start with str := [0x68, 0x69], stk := [1] }) [0x2C]
    (fun t => t.stk == [1, 0x68, 0x69]) = true := by decide
/-- V167. -/
theorem test_pushs_overflow : after ({ small with str := [0x68, 0x69], stk := [1] }) [0x2C]
    (fun t => t.stk == [1] && t.flag) = true := by decide
/-- V198. -/
theorem test_pep : after ({ start with stk := [0xFF, 0xFF] }) [0x2D]
    (fun t => t.ep == 0xFFFF && t.stk == []) = true := by decide
/-- V182. -/
theorem test_pep_underflow : after ({ start with stk := [1] }) [0x2D]
    (fun t => t.stk == [1] && flagged 0x0101 t) = true := by decide
/-- V183. -/
theorem test_pepz_taken : after ({ start with stk := [0x34, 0x12] }) [0x2E]
    (fun t => t.ep == 0x1234 && t.stk == []) = true := by decide
/-- V184. -/
theorem test_pepz_not_taken : after ({ start with b := 5, stk := [0x34, 0x12] }) [0x2E]
    (fun t => t.ep == 0x0101 && t.stk.length == 2) = true := by decide
/-- V187. -/
theorem test_pepp_taken : after ({ start with b := 2, stk := [0x03, 0x00] }) [0x2F]
    (fun t => t.ep == 0x0003) = true := by decide
/-- V188. -/
theorem test_pepp_zero : after ({ start with stk := [0x03, 0x00] }) [0x2F]
    (fun t => t.ep == 0x0101) = true := by decide
/-- V190. -/
theorem test_pepn_taken : after ({ start with b := 0x8000, stk := [0x00, 0x20] }) [0x30]
    (fun t => t.ep == 0x2000) = true := by decide
/-- V191. -/
theorem test_pepn_zero : after ({ start with stk := [0x00, 0x20] }) [0x30]
    (fun t => t.ep == 0x0101) = true := by decide
/-- V192. -/
theorem test_pepf_taken : after ({ start with flag := true, stk := [0x80, 0x00] }) [0x31]
    (fun t => t.ep == 0x0080 && t.flag) = true := by decide
/-- V193. -/
theorem test_pepf_not_taken : after ({ start with stk := [0x80, 0x00] }) [0x31]
    (fun t => t.ep == 0x0101) = true := by decide
/-- V194. -/
theorem test_pepaz_taken : after ({ start with stk := [0x10, 0x00] }) [0x32]
    (fun t => t.ep == 0x0010) = true := by decide
/-- V195. -/
theorem test_pepaz_not_taken : after ({ start with a := 1, stk := [0x10, 0x00] }) [0x32]
    (fun t => t.ep == 0x0101) = true := by decide
/-- V196. -/
theorem test_pepd_taken : after ({ start with dbg := true, stk := [0x00, 0x02] }) [0x33]
    (fun t => t.ep == 0x0200) = true := by decide
/-- V197. -/
theorem test_pepd_not_taken : after ({ start with stk := [0x00, 0x02] }) [0x33]
    (fun t => t.ep == 0x0101) = true := by decide
/-- V210. -/
theorem test_rclr : after ({ start with r := ((start.r.set 0 5).set 36 0xFF) }) [0x34]
    (fun t => t.r == List.replicate 37 0) = true := by decide
/-- V212. -/
theorem test_rldi_across_the_wrap : after ({ State.reset with ep := 0xFFF0 }) (0x35 :: (List.range 37).map fun i => BitVec.ofNat 8 (i + 1))
    (fun t => t.r.getD 36 0 == 37 && t.ep == 0x0016) = true := by decide
/-- V214. -/
theorem test_rldm_wraps : after (poke start 0xFFFF [1, 2]) [0x36, 0xFF, 0xFF]
    (fun t => t.r.getD 0 0 == 1 && t.r.getD 1 0 == 2) = true := by decide
/-- V215. -/
theorem test_rstm : after (poke { start with r := ((start.r.set 0 0xFF).set 36 1) } 0x0524 [0xAA, 0xAA]) [0x37, 0x05, 0x00]
    (fun t => t.mem.read 0x0524 == 0x01 && t.mem.read 0x0525 == 0xAA) = true := by decide
/-- V217. -/
theorem test_rget : after ({ start with r := (start.r.set 36 0xFF) }) [0x38, 0x24]
    (fun t => t.a == 255) = true := by decide
/-- V218. -/
theorem test_rget_beyond : after ({ start with a := 9 }) [0x38, 0x25]
    (fun t => t.a == 9 && flagged 0x0102 t) = true := by decide
/-- V220. -/
theorem test_rset : after ({ start with a := 200 }) [0x39, 0x00]
    (fun t => (t.r.getD 0 0).toInt == -56) = true := by decide
/-- V221. -/
theorem test_rset_beyond : after ({ start with a := 5 }) [0x39, 0x25]
    (fun t => t.r == start.r && flagged 0x0102 t) = true := by decide
/-- V222. -/
theorem test_rseti : after start [0x3A, 0x02, 0xFE] (fun t => (t.r.getD 2 0).toInt == -2) = true := by decide
/-- V223. -/
theorem test_rseti_beyond : after start [0x3A, 0xFF, 0x01] (fun t => flagged 0x0103 t) = true := by decide
/-- V224. -/
theorem test_rcpm : after ({ start with r := ((start.r.set 4 1).set 5 0xFF) }) [0x3B, 0x04, 0x02, 0x06, 0x00]
    (fun t => t.mem.read 0x0600 == 1 && t.mem.read 0x0601 == 0xFF) = true := by decide
/-- V227. -/
theorem test_rcpm_beyond : after start [0x3B, 0x26, 0x00, 0x06, 0x00] (fun t => flagged 0x0105 t) = true := by decide
/-- V240. -/
theorem test_sclr : after ({ start with str := [0x61, 0x62] }) [0x3C] (fun t => t.str == []) = true := by decide
/-- V243. -/
theorem test_sldm_too_long : after (poke { small with str := [1] } 0x0700 [0x61, 0x62, 0x63, 0]) [0x3D, 0x07, 0x00]
    (fun t => t.str == [1] && t.flag) = true := by decide
/-- V244. -/
theorem test_sldm_exactly_fits : after (poke { small with str := [1] } 0x0700 [0x61, 0x62, 0]) [0x3D, 0x07, 0x00]
    (fun t => t.str == [0x61, 0x62]) = true := by decide
/-- V246. -/
theorem test_sstm : after (poke { start with str := [0x6F, 0x6B] } 0x0802 [0xAA, 0xAA]) [0x3E, 0x08, 0x00]
    (fun t => t.mem.read 0x0802 == 0 && t.mem.read 0x0803 == 0xAA) = true := by decide
/-- V248. -/
theorem test_sapp : after ({ start with str := [0x61], a := 0x62 }) [0x3F]
    (fun t => t.str == [0x61, 0x62]) = true := by decide
/-- V249. -/
theorem test_sapp_full : after ({ small with str := [0x61, 0x62], a := 0x63 }) [0x3F]
    (fun t => t.str == [0x61, 0x62] && t.flag) = true := by decide
/-- V252. -/
theorem test_sappm_copies_zero : after (poke start 0x0900 [0x62, 0, 0x63]) [0x40, 0x09, 0x00, 0x03]
    (fun t => t.str == [0x62, 0, 0x63]) = true := by decide
/-- V253. -/
theorem test_sappm_nothing_on_full : after ({ small with str := [1, 2] }) [0x40, 0x09, 0x00, 0x00]
    (fun t => t.str == [1, 2] && !t.flag) = true := by decide
/-- V254. -/
theorem test_sget : after ({ start with str := [0x68, 0x69] }) [0x41, 0x01] (fun t => t.a == 0x69) = true := by decide
/-- V255. -/
theorem test_sget_beyond : after ({ start with str := [0x68, 0x69], a := 9 }) [0x41, 0x02]
    (fun t => t.a == 9 && flagged 0x0102 t) = true := by decide
/-- V256. -/
theorem test_sset : after ({ start with str := [0x68, 0x69], a := 0x6F }) [0x42, 0x01]
    (fun t => t.str == [0x68, 0x6F]) = true := by decide
/-- V257. -/
theorem test_sset_at_length : after ({ start with str := [0x68, 0x69], a := 0x6F }) [0x42, 0x02]
    (fun t => t.str == [0x68, 0x69] && t.flag) = true := by decide
/-- V258. -/
theorem test_slen : after ({ start with str := [1, 2, 3] }) [0x43] (fun t => t.a == 3) = true := by decide
/-- V270. -/
theorem test_chset : after start [0x44, 0x03] (fun t => t.choice == .depth3 && t.ep == 0x0102) = true := by decide
/-- V272. -/
theorem test_chset_invalid : after ({ start with choice := .depth1 }) [0x44, 0x05]
    (fun t => t.fault == some ⟨.invalidChoice, 0x05, 0x0100⟩ && t.ep == 0x0100) = true := by decide
/-- V274. -/
theorem test_chgeta : after ({ start with choice := .depth4 }) [0x45] (fun t => t.a == 4) = true := by decide
/-- V276. -/
theorem test_cntinc_at_the_ceiling : after ({ start with cnt := 0xFFFFFFFFFFFFFFFF }) [0x46]
    (fun t => t.cnt == 0xFFFFFFFFFFFFFFFF && !t.flag) = true := by decide
/-- V275. -/
theorem test_cntinc : after ({ start with cnt := 41 }) [0x46] (fun t => t.cnt == 42) = true := by decide
/-- V278. -/
theorem test_cntdec : after ({ start with cnt := 1 }) [0x47] (fun t => t.cnt == 0) = true := by decide
/-- V279. -/
theorem test_cntdec_at_zero : after start [0x47] (fun t => t.cnt == 0 && !t.flag) = true := by decide
/-- R249. -/
theorem test_pushcnt : after ({ start with cnt := 0x0102030405060708 }) [0x48]
    (fun t => t.stk == [8, 7, 6, 5, 4, 3, 2, 1]) = true := by decide
/-- V280. -/
theorem test_latset : after start [0x49] (fun t => t.latch) = true := by decide
/-- V282. -/
theorem test_latclr_refused : after ({ start with latch := true }) [0x4A]
    (fun t => t.latch && t.flag) = true := by decide
/-- V283. -/
theorem test_latclr : after start [0x4A] (fun t => !t.latch && !t.flag) = true := by decide
/-- V290. -/
theorem test_getch_closed : after ({ closed with ch := 0x41, keys := [0x61] }) [0x4B]
    (fun t => t.ch == 0x41 && t.keys == [0x61] && t.flag) = true := by decide
/-- V300. -/
theorem test_getch : after ({ opened with keys := [0x61] }) [0x4B]
    (fun t => t.ch == 0x61 && t.ep == 0x0101) = true := by decide
/-- V301. -/
theorem test_getln : after ({ opened with str := [1, 2, 3], lines := [[0x68, 0x69]] }) [0x4C]
    (fun t => t.str == [0x68, 0x69] && t.lines == []) = true := by decide
/-- V302. -/
theorem test_getln_too_long : after ({ opened with str := [1], lines := [[0x68, 0x69]], cfg := { stackCap := 2, strCap := 1, verbose := false } }) [0x4C]
    (fun t => t.str == [1] && t.flag) = true := by decide
/-- V305. -/
theorem test_wrch_verbose : after ({ opened with ch := 0x1F600, num := 0xFFFFFFFB, cfg := { small.cfg with verbose := true } }) [0x4D]
    (fun t => t.trace == [.outChar (some 0xFFFFFFFB) 0x1F600]) = true := by decide
/-- V292. -/
theorem test_wrch_closed : after ({ closed with ch := 0x41 }) [0x4D]
    (fun t => t.trace == [] && t.flag) = true := by decide
/-- V307. -/
theorem test_wrlns_empty : after opened [0x4E] (fun t => t.trace == [.outLine none []]) = true := by decide
/-- V293. -/
theorem test_wrlns_closed : after closed [0x4E] (fun t => t.trace == [] && t.flag) = true := by decide
/-- V310. -/
theorem test_wrlnm_wraps : after (poke opened 0xFFFE [0x41, 0x42, 0x43, 0]) [0x4F, 0xFF, 0xFE]
    (fun t => t.trace == [.outLine none [0x41, 0x42, 0x43]]) = true := by decide
/-- V297. -/
theorem test_wrlnm_closed : after (poke closed 0x0200 [0x68, 0]) [0x4F, 0x02, 0x00]
    (fun t => t.trace == [] && flagged 0x0103 t) = true := by decide
/-- V320. -/
theorem test_tgdbg : after opened [0x50] (fun t => t.dbg) = true := by decide
/-- V321. -/
theorem test_tgdbg_back : after ({ opened with dbg := true }) [0x50] (fun t => !t.dbg) = true := by decide
/-- V322. -/
theorem test_dbgst : after opened [0x51]
    (fun t => match t.trace with | [.dumpFull none snap] => snap.ep == 0x0101 | _ => false) = true := by decide
/-- V295. -/
theorem test_dbgst_closed : after closed [0x51] (fun t => t.trace == [] && t.flag) = true := by decide
/-- V323. -/
theorem test_dbgstc : after ({ opened with num := 9, stk := [1, 2], cfg := { small.cfg with verbose := true } }) [0x52]
    (fun t => match t.trace with | [.dumpCompact (some 9) snap] => snap.stkLen == 2 | _ => false) = true := by decide
/-- V296. -/
theorem test_dbgstc_closed : after closed [0x52] (fun t => t.trace == [] && t.flag) = true := by decide
/-- V326. -/
theorem test_dbgmem_wraps : after (poke opened 0xFFFF [0xAA, 0xBB]) [0x53, 0xFF, 0xFF, 0x00, 0x01]
    (fun t => t.trace == [.dumpMem none 0xFFFF [0xAA, 0xBB]]) = true := by decide
/-- V325. -/
theorem test_dbgmem_empty : after opened [0x53, 0x00, 0x10, 0x00, 0x10]
    (fun t => t.trace == [.dumpMem none 0x0010 []]) = true := by decide
/-- V327. -/
theorem test_dbgstk : after ({ opened with stk := [9, 8, 7] }) [0x54, 0x00, 0x01, 0x00, 0x0A]
    (fun t => t.trace == [.dumpStk none 1 10 [8, 7]]) = true := by decide
/-- V328. -/
theorem test_dbgstk_reversed : after ({ opened with stk := [9, 8, 7] }) [0x54, 0x00, 0x03, 0x00, 0x01]
    (fun t => t.trace == [.dumpStk none 3 1 []]) = true := by decide
/-- V341. -/
theorem test_invalid_opcode : after ({ State.reset with ep := 0xFFFF }) [0xFF]
    (fun t => t.fault == some ⟨.invalidOpcode, 0xFF, 0xFFFF⟩ && t.ep == 0xFFFF) = true := by decide
/-- V343. -/
theorem test_fetch_wraps : after ({ State.reset with ep := 0xFFFD }) [0x19, 0x01, 0x02, 0x03, 0x04]
    (fun t => t.num == 0x01020304 && t.ep == 0x0002) = true := by decide
/-- V346 and R113: a terminal state has no step. -/
theorem test_terminal_has_no_step : step { start with halted := true, a := 7 } = .fault (.halted 7) := rfl

/-! ### Witnesses: concrete states and operands that meet a statement's hypotheses, at the boundaries of its clauses -/

/-- A memory with one instruction at address 0x0100. -/
def at0100 (bs : List Byte) : State := poke start 0x0100 bs

/-- The invariant holds in a state other than reset. -/
theorem witness_Inv : (at0100 [0x06]).Inv where
  memWf := by decide
  slots := rfl
  strFits := by decide
  stkFits := by decide
  chScalar := rfl
  dpLegal := .inl rfl
  haltedDoomed h := nomatch (show false = true from h)
  exclusive _ := rfl
  faultAtEp _ h := nomatch (show none = some _ from h)
  keysScalar _ h := nomatch (show _ ∈ [] from h)

theorem witness_Running : (at0100 [0x06]).Running := ⟨rfl, rfl⟩

theorem witness_EncodeDecodeInverse : (Instr.rldi (List.replicate 37 7)).wf = true ∧
    decodeAt [(0, 0x2A), (65535, 0x10)] 0xFFFF = .ok (.ldai 0x2A, 2) := by
  exact ⟨by decide, rfl⟩

theorem witness_OpcodeMapIsBijective : decodeAt [(0, 0x10)] 0 = .ok (.ldai 0, 2) ∧
    decodeAt [(7, 0x10), (8, 1)] 7 = .ok (.ldai 1, 2) ∧ (0x54 : Byte).toNat ≤ 0x54 := by
  exact ⟨rfl, rfl, by decide⟩

/-- Both sides of both boundaries: 0x54 and 0x55, and CHSET with 4 and with 5. -/
theorem witness_DecodeFailsExactly : decodeAt [(0, 0x54)] 0 = .ok (.dbgstk 0 0, 5) ∧
    decodeAt [(0, 0x55)] 0 = .error (.invalidOpcode 0x55) ∧ decodeAt [(0, 0x44), (1, 4)] 0 = .ok (.chset .depth4, 2) ∧
    decodeAt [(0, 0x44), (1, 5)] 0 = .error (.invalidChoice 5) := by
  exact ⟨rfl, rfl, rfl, rfl⟩

theorem witness_DecodeReadsOnlyItsBytes : decodeAt [(0, 0x10), (1, 9)] 0 = .ok (.ldai 9, 2) ∧
    ∀ k < 2, Memory.read [(3, 0x10), (4, 9), (5, 1)] (3 + BitVec.ofNat 16 k) =
      Memory.read [(0, 0x10), (1, 9)] (0 + BitVec.ofNat 16 k) := by
  exact ⟨rfl, by decide⟩

theorem witness_StepRunsDecodedInstruction : (at0100 [0x06]).Running ∧
    decodeAt (at0100 [0x06]).mem (at0100 [0x06]).ep = .ok (.add, 1) := ⟨⟨rfl, rfl⟩, rfl⟩

theorem witness_ExactlyRunningStatesStep : ({ start with halted := true } : State).halted = true ∧
    ({ start with fault := some ⟨.invalidOpcode, 0x55, 0⟩ } : State).halted = false ∧
    ({ start with fault := some ⟨.invalidOpcode, 0x55, 0⟩ } : State).fault = some ⟨.invalidOpcode, 0x55, 0⟩ := by
  exact ⟨rfl, rfl, rfl⟩

theorem witness_FailedDecodeTakesFault : (at0100 [0x55]).Running ∧
    0x54 < ((at0100 [0x55]).mem.read (at0100 [0x55]).ep).toNat ∧ (at0100 [0x44, 5]).Running ∧
    (at0100 [0x44, 5]).mem.read (at0100 [0x44, 5]).ep = 0x44 ∧
    4 < ((at0100 [0x44, 5]).mem.read ((at0100 [0x44, 5]).ep + 1)).toNat := by
  exact ⟨⟨rfl, rfl⟩, by decide, ⟨rfl, rfl⟩, by decide, by decide⟩

/-- A step that halts, a step that faults, and a step that stays Running. -/
theorem witness_TransitionsOfTheStateMachine :
    step { at0100 [0x02] with doom := true } = .next { at0100 [0x02] with doom := true, halted := true, ep := 0x0101 } ∧
    step (at0100 [0x55]) = .next { at0100 [0x55] with fault := some ⟨.invalidOpcode, 0x55, 0x0100⟩ } ∧
    step (at0100 [0x00]) = .next { at0100 [0x00] with ep := 0x0101 } := by
  exact ⟨rfl, rfl, rfl⟩

theorem witness_ResetMeetsInvariant : Memory.wf [(0, 0x10), (65535, 1)] := by decide

theorem witness_StepKeepsInvariant : (at0100 [0x06]).Inv ∧
    step (at0100 [0x06]) = .next { at0100 [0x06] with ep := 0x0101 } := ⟨witness_Inv, rfl⟩

theorem witness_HostAnswersKeepInvariant : (at0100 [0x06]).Inv ∧ isScalar 0x10FFFF = true := ⟨witness_Inv, by decide⟩

theorem witness_FlagSetExactlyByItsCauses : exec .tgf start = .next { start with flag := true } := rfl

/-- One state for each clause: DOOM and LATCH set, and FLAG cleared by CLF and by TGF. -/
theorem witness_OneWayElements :
    step { at0100 [0x00] with doom := true, latch := true } =
      .next { at0100 [0x00] with doom := true, latch := true, ep := 0x0101 } ∧
    step { at0100 [0x03] with flag := true } = .next { at0100 [0x03] with ep := 0x0101 } ∧
    step { at0100 [0x04] with flag := true } = .next { at0100 [0x04] with ep := 0x0101 } := by
  exact ⟨rfl, rfl, rfl⟩

/-- NOP writes and reads no element; LDAI writes A and reads no element. -/
theorem witness_ElementsTouchedByTable : Runs .nop start start ∧ writesA .nop = false ∧ readsA .nop = false ∧
    isFullDump .nop = false ∧ Runs (.ldai 1) start { start with a := 1 } ∧ writesB (.ldai 1) = false ∧
    readsB (.ldai 1) = false ∧ isFullDump (.ldai 1) = false := by
  refine ⟨?_, rfl, rfl, rfl, ?_, rfl, rfl, rfl⟩ <;> rfl

theorem witness_TraceIsOutputOnly :
    step (poke opened 0x0100 [0x4D]) = .next { poke opened 0x0100 [0x4D] with ep := 0x0101, trace := [.outChar none 0] } ∧
    GateOpen (poke opened 0x0100 [0x4D]) := by
  exact ⟨rfl, rfl⟩

theorem witness_MemoryReadAfterWrite : ([1, 2, 3] : List Byte).length ≤ 65536 ∧ 2 ≤ 256 ∧ 0xFFFF < 256 ^ 2 ∧ 256 ≤ 256 ∧
    0 < 256 ^ 256 ∧ 2 ≤ ((0x0102 : Word) - 0x0100).toNat := by
  refine ⟨by decide, by decide, by decide, by decide, by positivity, by decide⟩

theorem witness_CanonicalMemory : Memory.wf [(0, 0x2E), (65535, 1)] ∧
    ∀ x : Word, Memory.read [(0, 0x2E), (65535, 1)] x = Memory.read [(0, 0x2E), (65535, 1)] x := ⟨by decide, fun _ => rfl⟩

theorem witness_LoaderWritesItems : (∀ j ∈ ([.nop] ++ .cmp :: [.slen] : List Instr), j.wf = true) ∧
    (([.nop] ++ .cmp :: [.slen] : List Instr).map Instr.length).sum ≤ 65536 := by decide

theorem witness_ControlInstructions : start.doom = false ∧ ({ start with doom := true } : State).doom = true ∧
    start.flag = false ∧ ({ start with flag := true } : State).flag = true := by decide

/-- The smallest and the largest member, a semiprime, and the neighbours that are not members. -/
theorem witness_SetdpAcceptsExactlyAllowList : IsFibonacci 2 ∧ (2 : Nat).Prime ∧ IsFibonacci 21 ∧ IsSemiprime 21 ∧
    IsFibonacci 28657 ∧ (28657 : Nat).Prime ∧ ¬((0 : Nat).Prime ∨ IsSemiprime 0) ∧ 65535 < 65536 := by
  refine ⟨⟨3, rfl⟩, by norm_num, ⟨8, rfl⟩, ⟨3, 7, by norm_num, by norm_num, rfl⟩, ⟨23, by norm_num⟩, by norm_num, ?_,
    by norm_num⟩
  rintro (h | ⟨p, q, hp, hq, h⟩)
  · exact Nat.not_prime_zero h
  · rcases Nat.mul_eq_zero.mp h.symm with h | h
    · exact hp.ne_zero h
    · exact hq.ne_zero h

/-- The last sum that fits and the first that does not, at both ends; and the extreme product. -/
theorem witness_CheckedArithmetic :
    ((32766 : Word).toInt + sN 16 (1 : Word).toNat = 32767) ∧ ((32767 : Word).toInt + sN 16 (1 : Word).toNat = 32768) ∧
    ((0x8001 : Word).toInt - sN 16 (1 : Word).toNat = -32768) ∧ ((0x8000 : Word).toInt - sN 16 (1 : Word).toNat = -32769) ∧
    ((0x8000 : Word).toInt * sN 16 (0x8000 : Word).toNat = 1073741824) := by decide

theorem witness_WrappingDivision : sN 16 (0 : Word).toNat = 0 ∧ sN 16 (0xFFFF : Word).toNat = -1 ∧
    (0x8000 : Word).toInt = -32768 := by decide

theorem witness_CompareClamps : min (((0x7FFF : Word).toNat : Int)) 32767 = 32767 ∧
    min (((0x8000 : Word).toNat : Int)) 32767 = 32767 ∧ (0xFFFF : Word).toInt - 32767 = -32768 ∧
    (0xFFFE : Word).toInt - 32767 = -32769 := by decide

/-- Room for exactly eight bytes, and for one less. -/
theorem witness_Pushes : ([] : List Byte).length + 8 ≤ 8 ∧ ¬([1] : List Byte).length + 8 ≤ 8 := by decide

theorem witness_PopsMostSignificantOnTop : 4 ≤ ([1, 2, 3, 4] : List Byte).length ∧
    topValue [1, 2, 3, 4] 4 = 0x04030201 ∧ ([1, 2, 3] : List Byte).length < 4 := by decide

theorem witness_PopToMemory : start.stk = [] ∧ ({ start with stk := [5, 9] } : State).stk = [5] ++ [9] := by decide

/-- Both sides of every boundary of the scalar values. -/
theorem witness_PopCharChecksScalar : topValue [0xFF, 0xD7, 0, 0] 4 = 0xD7FF ∧ topValue [0x00, 0xD8, 0, 0] 4 = 0xD800 ∧
    topValue [0xFF, 0xDF, 0, 0] 4 = 0xDFFF ∧ topValue [0x00, 0xE0, 0, 0] 4 = 0xE000 ∧
    topValue [0xFF, 0xFF, 0x10, 0] 4 = 0x10FFFF ∧ topValue [0, 0, 0x11, 0] 4 = 0x110000 ∧
    ([1, 2, 3] : List Byte).length < 4 := by decide

theorem witness_StackSpaceAllOrNothing : start.stk.length + (4095 : Word).toNat ≤ start.cfg.stackCap.val ∧
    start.cfg.stackCap.val < start.stk.length + (4096 : Word).toNat ∧
    (2 : Word).toNat ≤ ({ start with stk := [1, 2] } : State).stk.length ∧
    ({ start with stk := [1, 2] } : State).stk.length < (3 : Word).toNat ∧
    ({ small with str := [1, 2] } : State).stk.length + 2 ≤ small.cfg.stackCap.val ∧
    small.cfg.stackCap.val < ({ small with stk := [1] } : State).stk.length + ([1, 2] : List Byte).length := by decide

theorem witness_PushThenPopRestores : start.stk.length + 8 ≤ start.cfg.stackCap.val ∧ isScalar start.ch = true := by decide

theorem witness_JumpsPopTheirTarget : start.b.toInt = 0 ∧ 0 < ({ start with b := 1 } : State).b.toInt ∧
    ({ start with b := 0x8000 } : State).b.toInt < 0 ∧ start.flag = false ∧ start.a.toNat = 0 ∧ start.dbg = false ∧
    ({ start with flag := true, dbg := true, a := 1 } : State).flag = true := by decide

theorem witness_ArrayBulkTransfers : (List.replicate 37 (0xFF : Byte)).length = 37 ∧ start.r.length = 37 := by decide

theorem witness_ArraySlotAccess : (36 : Byte).toNat ≤ 36 ∧ 36 < (37 : Byte).toNat ∧
    (37 : Byte).toNat + (0 : Byte).toNat ≤ 37 ∧ 37 < (36 : Byte).toNat + (2 : Byte).toNat ∧
    37 < (255 : Byte).toNat + (255 : Byte).toNat ∧ start.r.length = 37 := by decide

/-- `small` with one byte and with two: the last that fits and the first that does not; the last index and the first
beyond. -/
theorem witness_StringRegisterAccess : ([1] : List Byte).length + 1 ≤ small.cfg.strCap.val ∧
    small.cfg.strCap.val < ([1, 2] : List Byte).length + 1 ∧
    ([1] : List Byte).length + (1 : Byte).toNat ≤ small.cfg.strCap.val ∧
    small.cfg.strCap.val < ([1] : List Byte).length + (2 : Byte).toNat ∧ (1 : Byte).toNat < ([1, 2] : List Byte).length ∧
    ([1, 2] : List Byte).length ≤ (2 : Byte).toNat ∧ (List.replicate 255 (1 : Byte)).length ≤ 255 := by
  rw [List.length_replicate]; decide

/-- Two bytes and a zero fit `small`; three bytes do not. -/
theorem witness_StringInMemory :
    ((poke small 0x0700 [1, 2]).mem.read (0x0700 + BitVec.ofNat 16 2) = 0 ∧
      ∀ k < 2, (poke small 0x0700 [1, 2]).mem.read (0x0700 + BitVec.ofNat 16 k) ≠ 0) ∧
    (∀ n ≤ small.cfg.strCap.val, (poke small 0x0700 [1, 2, 3]).mem.read (0x0700 + BitVec.ofNat 16 n) ≠ 0) ∧
    ([1, 2] : List Byte).length ≤ 255 := by decide

theorem witness_StringRoundTrip : ([1, 0, 2] : List Byte).length ≤ start.cfg.strCap.val ∧
    Runs (.sstm 0x0700) { start with str := [1, 0, 2] } { start with str := [1, 0, 2], mem := [(0x0700, 1), (0x0702, 2)] } := by
  exact ⟨by decide, rfl⟩

theorem witness_FlagsStructInstructions : (at0100 [0x44, 5]).Running ∧
    (at0100 [0x44, 5]).mem.read (at0100 [0x44, 5]).ep = 0x44 ∧
    (at0100 [0x44, 5]).mem.read ((at0100 [0x44, 5]).ep + 1) = 5 ∧ 4 < (5 : Byte).toNat ∧ start.latch = false ∧
    ({ start with latch := true } : State).latch = true ∧ start.cnt.toNat - 1 = 0 ∧
    min ((0xFFFFFFFFFFFFFFFF : Word64).toNat + 1) (2 ^ 64 - 1) = 2 ^ 64 - 1 :=
  ⟨⟨rfl, rfl⟩, by decide, by decide, by decide, by decide, by decide, by decide, by decide⟩

theorem witness_GateDecidesGatedInstructions : isGated .dbgst = true ∧ closed.mem.read closed.dp ≠ 0x2E ∧
    opened.mem.read opened.dp = 0x2E ∧ ({ opened with flag := true } : State).flag = true := by decide

/-- The gate in both positions. -/
theorem witness_Gated : GateOpen opened ∧ ¬GateOpen closed := by
  unfold GateOpen; decide

theorem witness_GetCharTakesAnswer : ({ opened with keys := [0x61, 0x62] } : State).keys = 0x61 :: [0x62] := by decide

theorem witness_GetCharHoldsUntilAnswered : (poke opened 0x0100 [0x4B]).Holding := ⟨⟨rfl, rfl⟩, rfl, by decide, rfl⟩

/-- A listed line that fits and one that does not; no listed line, and then the free line fits or does not. -/
theorem witness_GetLineReplacesString :
    ({ small with lines := [[1, 2], []] } : State).lines = [1, 2] :: [[]] ∧ [1, 2].length ≤ small.cfg.strCap.val ∧
    small.cfg.strCap.val < [1, 2, 3].length ∧ opened.lines = [] ∧
    ((Config.lineAnswer opened.lineReqs).length ≤ opened.cfg.strCap.val ∨
      opened.cfg.strCap.val < (Config.lineAnswer opened.lineReqs).length) :=
  ⟨rfl, by decide, by decide, rfl, (Nat.lt_or_ge _ _).symm⟩

/-- A text of one byte and its zero byte. -/
theorem witness_WritesEmitTheirEvent : (1 ≤ 65536 ∧
    ∀ k < 1, (poke opened 0x0200 [0x41]).mem.read (0x0200 + BitVec.ofNat 16 k) ≠ 0) ∧
    (1 < 65536 → (poke opened 0x0200 [0x41]).mem.read (0x0200 + BitVec.ofNat 16 1) = 0) := by decide

/-- The other end: a memory without a zero byte, and `n = 65536`. -/
theorem witness_WritesEmitTheirEvent_no_zero :
    ∀ k < 65536, (memWriteBytes [] 0 (List.replicate 65536 0x2E)).read (0 + BitVec.ofNat 16 k) ≠ 0 := by
  intro k hk
  rw [read_memWriteBytes _ _ _ _ (List.length_replicate ..).le, toNat_add_sub_self, Nat.mod_eq_of_lt hk,
    List.getElem?_replicate, if_pos hk]
  exact (by decide : (0x2E : Byte) ≠ 0)

/-- A range that wraps, an empty one; and a clipped range of the stack. -/
theorem witness_RangeDumps : ((2 : Nat) : Int) = (((1 : Word).toNat : Int) - (0xFFFF : Word).toNat) % 65536 ∧
    ((0 : Nat) : Int) = (((5 : Word).toNat : Int) - (5 : Word).toNat) % 65536 ∧
    2 = min (10 : Word).toNat ([1, 2] : List Byte).length := by decide

/-! ### The run -/

/-- DOOM, CONCL at address 0 (R112, R113; D34): two steps, the exit status is A, and more steps change nothing. -/
theorem test_run_ends_in_halted :
    run Params.reference [(0, 0x01), (1, 0x02)] [] [] 1 = none ∧
    run Params.reference [(0, 0x01), (1, 0x02)] [] [] 2 = some (.exit 0 { runStart Params.reference
      [(0, 0x01), (1, 0x02)] [] [] with doom := true, halted := true, ep := 2 }) ∧
    run Params.reference [(0, 0x01), (1, 0x02)] [] [] 9 = run Params.reference [(0, 0x01), (1, 0x02)] [] [] 2 := by
  decide

/-- The byte 0x55 at address 0 (R292, R113): the run aborts with the triple, EP not advanced. -/
theorem test_run_aborts : run Params.reference [(0, 0x55)] [] [] 5 = some (.abort ⟨.invalidOpcode, 0x55, 0⟩
    { runStart Params.reference [(0, 0x55)] [] [] with fault := some ⟨.invalidOpcode, 0x55, 0⟩ }) := by decide

/-- A halted state without a fault; the runs of the two tests above are what the equivalence speaks of. -/
theorem witness_RunRepeatsStep : ({ start with halted := true } : State).halted = true ∧
    ({ start with halted := true } : State).fault = none := by decide

/-- A run that ends, and a state with a step. -/
theorem witness_RunEndsOnceOrNever : ({ start with halted := true } : State).RunEnds
      (.exit 0 { start with halted := true }) ∧ runFrom 0 { start with halted := true } =
      some (.exit 0 { start with halted := true }) ∧ 0 ≤ 1 ∧ step start = .next { start with ep := 0x0101 } :=
  ⟨⟨0, rfl⟩, rfl, by decide, rfl⟩

theorem witness_UnansweredGetCharNeverEnds : (poke opened 0x0100 [0x4B]).Holding := witness_GetCharHoldsUntilAnswered

/-- A step that asks for nothing, and a GETLN whose line is listed. -/
theorem witness_AnswersMayComeEarly : step start = .next { start with ep := 0x0101 } ∧
    decodeAt start.mem start.ep = .ok (.nop, 1) ∧
    (∃ t, step { poke opened 0x0100 [0x4C] with lines := [[1]] } = .next t) ∧
    ({ poke opened 0x0100 [0x4C] with lines := [[1]] } : State).lines ≠ [] :=
  ⟨rfl, rfl, ⟨_, rfl⟩, by decide⟩

end Sys2Proof.Tests
end

/-! ### The start of a run: the model's own fields

The 20 elements of R20 at the start of a run are the spec's; the four fields below are the model's (assumptions 4
to 6). -/

namespace Sys2Proof.Machine

/-- Memory is a sparse list, so the empty image is the memory a created instance already has. -/
theorem State.create_eq_boot_nil (p : Params) : State.create p = State.boot p [] := rfl

section
variable (p : Params) (image : Memory)

@[simp] theorem State.boot_trace : (State.boot p image).trace = [] := rfl
@[simp] theorem State.boot_keys : (State.boot p image).keys = [] := rfl
@[simp] theorem State.boot_lines : (State.boot p image).lines = [] := rfl
@[simp] theorem State.boot_lineReqs : (State.boot p image).lineReqs = 0 := rfl

end

end Sys2Proof.Machine

namespace Sys2Proof.Claims

open Sys2Proof.Machine

/-- Settles O12: `State.reset` is the instance created with the parameters of R5, and the empty image changes nothing
of it; loading an image writes memory alone, so the model's own fields keep the values of the creation. -/
theorem modelFieldsAtReset : Obligations.ModelFieldsAtReset :=
  ⟨State.create_eq_boot_nil Params.reference, fun p image =>
    ⟨State.boot_trace p image, State.boot_keys p image, State.boot_lines p image, State.boot_lineReqs p image⟩⟩

end Sys2Proof.Claims

/-! ### Memory: numbers and bytes at the wrapped addresses -/

namespace Sys2Proof

/-- The first byte of a big-endian number is its most significant one (R62). -/
theorem beNat_cons (b : Byte) (bs : List Byte) : beNat (b :: bs) = b.toNat * 256 ^ bs.length + beNat bs := by
  simp only [beNat, List.reverse_cons, leNat_append, leNat_cons, leNat_nil, List.length_reverse]
  ring

/-- Byte `i` of a big-endian value: the bit field `v[8(n-1-i)+7 : 8(n-1-i)]` of R63. -/
theorem getElem?_beBytes (n v i : Nat) (h : i < n) :
    (beBytes n v)[i]? = some (BitVec.ofNat 8 (v / 256 ^ (n - 1 - i))) := by
  rw [beBytes, List.getElem?_reverse (by simpa using h), length_leBytes, getElem?_leBytes _ _ _ (by omega)]

end Sys2Proof

namespace Sys2Proof.Machine

theorem memRead_succ (m : Memory) (a : Word) (n : Nat) :
    memRead m a (n + 1) = (m.read a).toNat * 256 ^ n + memRead m (a + 1) n := by
  rw [memRead, memBytes_succ, beNat_cons, length_memBytes, memRead]

/-- Every byte after a write of a value (R63): the value's own where it reaches, the old one elsewhere. -/
theorem read_memWrite (m : Memory) (a x : Word) (n v : Nat) (hn : n ≤ 65536) :
    (memWrite m a n v).read x = ((beBytes n v)[(x - a).toNat]?).getD (m.read x) :=
  read_memWriteBytes m a x _ (by simpa using hn)

/-- Inside the write, also past the end of memory, stand the bytes of the value. -/
theorem read_memWrite_inside (m : Memory) (a : Word) (n v : Nat) (hn : n ≤ 65536) (i : Nat) (hi : i < n) :
    (memWrite m a n v).read (a + BitVec.ofNat 16 i) = BitVec.ofNat 8 (v / 256 ^ (n - 1 - i)) := by
  rw [read_memWrite _ _ _ _ _ hn, toNat_add_sub_self, Nat.mod_eq_of_lt (by omega), getElem?_beBytes _ _ _ hi,
    Option.getD_some]

theorem read_memWrite_outside (m : Memory) (a x : Word) (n v : Nat) (hn : n ≤ 65536) (hx : n ≤ (x - a).toNat) :
    (memWrite m a n v).read x = m.read x := by
  rw [read_memWrite _ _ _ _ _ hn, List.getElem?_eq_none (by simpa using hx), Option.getD_none]

/-- A value of `n` bytes is read back after it is written (R62 after R63). -/
theorem memRead_memWrite (m : Memory) (a : Word) (n v : Nat) (hn : n ≤ 65536) (hv : v < 256 ^ n) :
    memRead (memWrite m a n v) a n = v := by
  have hback := memBytes_memWriteBytes m a (beBytes n v) (by simpa using hn)
  rw [length_beBytes] at hback
  rw [memRead, memWrite, hback, beNat_beBytes, Nat.mod_eq_of_lt hv]

end Sys2Proof.Machine

namespace Sys2Proof.Claims

open Sys2Proof.Machine

/-- The sum of R62, its first summand split off. -/
theorem readValue_succ (m : Memory) (a : Word) (n : Nat) :
    readValue m a (n + 1) = (m.read a).toNat * 256 ^ n + readValue m (a + 1) n := by
  rw [readValue, Finset.sum_range_succ', Nat.add_comm]
  congr 1
  · simp
  · refine Finset.sum_congr rfl fun i _ => ?_
    rw [← word_add_succ, show n + 1 - 1 - (i + 1) = n - 1 - i by omega]

/-- The model's fold over the bytes is the sum of R62. -/
theorem memRead_eq_readValue (m : Memory) (a : Word) (n : Nat) : memRead m a n = readValue m a n := by
  induction n generalizing a with
  | zero => rfl
  | succ n ih => rw [memRead_succ, readValue_succ, ih]

/-- Settles O21: the read is the sum by induction on the number of bytes, and what a write does is read off the bytes
of the sequence written. -/
theorem memoryReadAfterWrite : Obligations.MemoryReadAfterWrite := by
  refine ⟨fun m a n => ⟨memRead_eq_readValue m a n, memBytes_eq_map m a n⟩,
    fun m a bs hbs x => read_memWriteBytes m a x bs hbs, fun m a n v hn hv => ?_⟩
  have hn' : n ≤ 65536 := by omega
  refine ⟨?_, read_memWrite_inside m a n v hn', fun x => read_memWrite_outside m a x n v hn'⟩
  rw [← memRead_eq_readValue, memRead_memWrite m a n v hn' hv]

/-- Settles O22: a canonical memory lists exactly its nonzero bytes in the order of their addresses, so the reads
determine it, and a sequence is written byte by byte, each write keeping the form. -/
theorem canonicalMemory : Obligations.CanonicalMemory :=
  ⟨fun _ _ hm hm' hread => Memory.ext_of_wf hm hm' hread, fun _ a bs hm => Memory.wf_memWriteBytes hm a bs⟩

end Sys2Proof.Claims

/-! ### The decoder and the encoder: each format answers exactly what it is the layout of (R81, R82)

The bytes an instruction decodes from are those that begin with its encoding; format by format first, then for the
table of R90, then in memory. -/

namespace Sys2Proof

section
variable {bs : List Byte} {i : Instr}

@[simp] theorem formatB_eq_ok_iff {mk : Byte → Instr} : formatB mk bs = .ok i ↔ ∃ x, i = mk x ∧ [x] <+: bs := by
  constructor
  · intro h
    match bs, h with
    | x :: rest, rfl => exact ⟨x, rfl, by simp⟩
  · rintro ⟨x, rfl, rest, rfl⟩
    rfl

@[simp] theorem formatC_eq_ok_iff {mk : Choice → Instr} :
    formatC mk bs = .ok i ↔ ∃ c, i = mk c ∧ [choiceToByte c] <+: bs := by
  constructor
  · intro h
    match bs, h with
    | x :: rest, h =>
      rw [formatC_cons] at h
      split at h
      next c hc =>
        cases h
        exact ⟨c, rfl, by simp [choiceToByte_of_choiceOfByte hc]⟩
      next => cases h
  · rintro ⟨c, rfl, rest, rfl⟩
    exact formatC_choiceToByte mk c rest

@[simp] theorem formatH_eq_ok_iff {mk : Word → Instr} :
    formatH mk bs = .ok i ↔ ∃ x, i = mk x ∧ beBytes 2 x.toNat <+: bs := by
  constructor
  · intro h
    match bs, h with
    | x1 :: x0 :: rest, rfl => exact ⟨beWord x1 x0, rfl, by simp⟩
  · rintro ⟨x, rfl, rest, rfl⟩
    rw [beBytes_word, List.cons_append, List.cons_append, formatH_cons, beWord_bytes]

@[simp] theorem formatBB_eq_ok_iff {mk : Byte → Byte → Instr} :
    formatBB mk bs = .ok i ↔ ∃ x y, i = mk x y ∧ [x, y] <+: bs := by
  constructor
  · intro h
    match bs, h with
    | x :: y :: rest, rfl => exact ⟨x, y, rfl, by simp⟩
  · rintro ⟨x, y, rfl, rest, rfl⟩
    rfl

@[simp] theorem formatHB_eq_ok_iff {mk : Word → Byte → Instr} :
    formatHB mk bs = .ok i ↔ ∃ x y, i = mk x y ∧ beBytes 2 x.toNat ++ [y] <+: bs := by
  constructor
  · intro h
    match bs, h with
    | x1 :: x0 :: y :: rest, rfl => exact ⟨beWord x1 x0, y, rfl, by simp⟩
  · rintro ⟨x, y, rfl, rest, rfl⟩
    simp only [beBytes_word, List.cons_append, List.nil_append, formatHB_cons, beWord_bytes]

@[simp] theorem formatW_eq_ok_iff {mk : Word32 → Instr} :
    formatW mk bs = .ok i ↔ ∃ x, i = mk x ∧ beBytes 4 x.toNat <+: bs := by
  constructor
  · intro h
    match bs, h with
    | x3 :: x2 :: x1 :: x0 :: rest, rfl => exact ⟨beWord32 x3 x2 x1 x0, rfl, by simp⟩
  · rintro ⟨x, rfl, rest, rfl⟩
    simp only [beBytes_word32, List.cons_append, List.nil_append, formatW_cons, beWord32_bytes]

@[simp] theorem formatHH_eq_ok_iff {mk : Word → Word → Instr} :
    formatHH mk bs = .ok i ↔ ∃ x y, i = mk x y ∧ beBytes 2 x.toNat ++ beBytes 2 y.toNat <+: bs := by
  constructor
  · intro h
    match bs, h with
    | x1 :: x0 :: y1 :: y0 :: rest, rfl => exact ⟨beWord x1 x0, beWord y1 y0, rfl, by simp⟩
  · rintro ⟨x, y, rfl, rest, rfl⟩
    simp only [beBytes_word, List.cons_append, List.nil_append, formatHH_cons, beWord_bytes]

@[simp] theorem formatBBH_eq_ok_iff {mk : Byte → Byte → Word → Instr} :
    formatBBH mk bs = .ok i ↔ ∃ x y z, i = mk x y z ∧ x :: y :: beBytes 2 z.toNat <+: bs := by
  constructor
  · intro h
    match bs, h with
    | x :: y :: z1 :: z0 :: rest, rfl => exact ⟨x, y, beWord z1 z0, rfl, by simp⟩
  · rintro ⟨x, y, z, rfl, rest, rfl⟩
    simp only [beBytes_word, List.cons_append, List.nil_append, formatBBH_cons, beWord_bytes]

@[simp] theorem formatV37_eq_ok_iff {mk : List Byte → Instr} :
    formatV37 mk bs = .ok i ↔ ∃ v, i = mk v ∧ v.length = 37 ∧ v <+: bs := by
  constructor
  · intro h
    rw [formatV37] at h
    split at h
    next hlen =>
      cases h
      exact ⟨bs.take 37, rfl, by simpa using hlen, List.take_prefix 37 bs⟩
    next => cases h
  · rintro ⟨v, rfl, hv, rest, rfl⟩
    exact formatV37_append mk v rest hv

end

/-- A row of R90 answers only instructions whose encoding the bytes begin with. The rows differ in their format alone:
the format's lemma names the operands and the bytes they stand in (a row of format N has none). -/
theorem encode_isPrefix_of_decodeRow {op : Byte} {bs : List Byte} {i : Instr} (h : decodeRow op bs = .ok i) :
    i.wf = true ∧ encode i <+: op :: bs := by
  have hop : op.toNat ≤ 0x54 := by
    by_contra hgt
    rw [decodeRow_invalid (by omega)] at h
    cases h
  obtain ⟨n, hn, rfl⟩ : ∃ n, n ≤ 0x54 ∧ op = BitVec.ofNat 8 n := ⟨op.toNat, hop, by simp⟩
  clear hop
  interval_cases n
  all_goals
    simp at h
    try casesm* ∃ _, _, _ ∧ _
    subst i
    simp [encode, Instr.wf, *]

/-- Whatever follows an encoding, the decoder reads the instruction from it (R88). -/
theorem decode_encode_append {i : Instr} (hi : i.wf = true) (rest : List Byte) :
    decode (encode i ++ rest) = .ok i := by
  cases i with
  | rldi v => exact formatV37_append .rldi v rest (by simpa [Instr.wf] using hi)
  | _ => simp [encode]

/-- What the decoder answers, in terms of the encoder: the one well-formed instruction whose encoding the bytes begin
with. -/
theorem decode_eq_ok_iff {bs : List Byte} {i : Instr} : decode bs = .ok i ↔ i.wf = true ∧ encode i <+: bs := by
  constructor
  · intro h
    match bs, h with
    | op :: rest, h => exact encode_isPrefix_of_decodeRow h
  · rintro ⟨hi, rest, rfl⟩
    exact decode_encode_append hi rest

/-- The encoder writes as many bytes as the instruction is long (R88: "advances cursor identically"). -/
theorem length_encode {i : Instr} (hi : i.wf = true) : (encode i).length = i.length := by
  cases i with
  | rldi v => exact Laws.EncodedLength.rldi v hi
  | sappm addr n => exact Laws.EncodedLength.sappm addr n hi
  | dbgmem start stop => exact Laws.EncodedLength.dbgmem start stop hi
  | dbgstk start stop => exact Laws.EncodedLength.dbgstk start stop hi
  | _ => rfl

theorem Instr.length_le_maxLength (i : Instr) : i.length ≤ maxLength := by cases i <;> exact Nat.le_of_ble_eq_true rfl

/-- The constructors stand in the order of the opcodes of R90: the first byte is the constructor's number. -/
theorem encode_eq_cons (i : Instr) : ∃ operands, encode i = BitVec.ofNat 8 i.ctorIdx :: operands := by
  cases i <;> exact ⟨_, rfl⟩

theorem Instr.ctorIdx_le (i : Instr) : i.ctorIdx ≤ 0x54 := by cases i <;> exact Nat.le_of_ble_eq_true rfl

/-- The `len` column of R90, read off the decoder: the length of the instruction of this opcode byte with all operand
bytes 0; 0 where there is no row. -/
def lengthOfOpcode (op : Byte) : Nat :=
  match decode (op :: List.replicate 37 0) with
  | .ok i => i.length
  | .error _ => 0

/-- The operands do not matter for the length (R84). -/
theorem lengthOfOpcode_ctorIdx (i : Instr) : lengthOfOpcode (BitVec.ofNat 8 i.ctorIdx) = i.length := by
  cases i <;> rfl

end Sys2Proof

/-! ### Decoding and encoding in memory (R83, R88) -/

namespace Sys2Proof.Machine

theorem isPrefix_memBytes_iff (m : Memory) (a : Word) {n : Nat} {bs : List Byte} (h : bs.length ≤ n) :
    bs <+: memBytes m a n ↔ memBytes m a bs.length = bs := by
  rw [List.prefix_iff_eq_take, take_memBytes m a h, eq_comm]

theorem memBytes_eq_memBytes_iff (m m' : Memory) (a a' : Word) (n : Nat) :
    memBytes m a n = memBytes m' a' n ↔
      ∀ k < n, m.read (a + BitVec.ofNat 16 k) = m'.read (a' + BitVec.ofNat 16 k) := by
  simp [memBytes_eq_map]

/-- Writing the bytes that are there leaves every byte as it is, in any list of cells. -/
theorem read_memWriteBytes_memBytes (m : Memory) (a x : Word) {n : Nat} (hn : n ≤ 65536) :
    (memWriteBytes m a (memBytes m a n)).read x = m.read x := by
  rw [read_memWriteBytes _ _ _ _ (by simpa using hn), getElem?_memBytes]
  split
  · rw [BitVec.ofNat_toNat, BitVec.setWidth_eq, add_sub_cancel, Option.getD_some]
  · rfl

theorem decodeAt_eq_ok_iff_decode {m : Memory} {a : Word} {i : Instr} {n : Nat} :
    decodeAt m a = .ok (i, n) ↔ decode (memBytes m a maxLength) = .ok i ∧ n = i.length := by
  unfold decodeAt
  cases decode (memBytes m a maxLength) with
  | error e => simp
  | ok j =>
    simp only [Except.ok.injEq, Prod.mk.injEq]
    constructor
    · rintro ⟨rfl, rfl⟩
      exact ⟨rfl, rfl⟩
    · rintro ⟨rfl, rfl⟩
      exact ⟨rfl, rfl⟩

/-- `Decode(a)` answers `i` with length `n` exactly when the `n` bytes at `a` are the encoding of the well-formed
instruction `i` (R83, R88). -/
theorem decodeAt_eq_ok_iff {m : Memory} {a : Word} {i : Instr} {n : Nat} :
    decodeAt m a = .ok (i, n) ↔ i.wf = true ∧ n = i.length ∧ memBytes m a n = encode i := by
  rw [decodeAt_eq_ok_iff_decode, decode_eq_ok_iff, and_assoc, and_congr_right_iff]
  intro hi
  have hlen : (encode i).length = i.length := length_encode hi
  rw [isPrefix_memBytes_iff m a (hlen ▸ i.length_le_maxLength), hlen, and_comm, and_congr_right_iff]
  rintro rfl
  rfl

/-- The opcode byte is the number of the constructor (R89). -/
theorem toNat_read_of_decodeAt {m : Memory} {a : Word} {i : Instr} {n : Nat} (h : decodeAt m a = .ok (i, n)) :
    (m.read a).toNat = i.ctorIdx := by
  obtain ⟨-, -, hbytes⟩ := decodeAt_eq_ok_iff.mp h
  obtain ⟨operands, hcons⟩ := encode_eq_cons i
  have hfirst : (memBytes m a n)[0]? = some (BitVec.ofNat 8 i.ctorIdx) := by rw [hbytes, hcons]; rfl
  rw [getElem?_memBytes] at hfirst
  split at hfirst
  next =>
    have hread : m.read a = BitVec.ofNat 8 i.ctorIdx := by simpa using hfirst
    rw [hread, BitVec.toNat_ofNat, Nat.mod_eq_of_lt (by have := i.ctorIdx_le; omega)]
  next => cases hfirst

/-- The length is a function of the opcode byte (R84). -/
theorem lengthOfOpcode_read_of_decodeAt {m : Memory} {a : Word} {i : Instr} {n : Nat}
    (h : decodeAt m a = .ok (i, n)) : lengthOfOpcode (m.read a) = n := by
  have hread : m.read a = BitVec.ofNat 8 i.ctorIdx := by rw [← toNat_read_of_decodeAt h]; simp
  rw [hread, lengthOfOpcode_ctorIdx, decodeAt_length h]

/-- An encoding written into memory decodes where it stands. -/
theorem decodeAt_encodeAt (m : Memory) (a : Word) {i : Instr} (hi : i.wf = true) :
    decodeAt (encodeAt m i a).1 a = .ok (i, i.length) := by
  have hlen : (encode i).length = i.length := length_encode hi
  have hmax : i.length ≤ 38 := i.length_le_maxLength
  refine decodeAt_eq_ok_iff.mpr ⟨hi, rfl, ?_⟩
  rw [← hlen]
  exact memBytes_memWriteBytes m a (encode i) (by omega)

/-- An encoding reaches no further than the instruction's length. -/
theorem read_encodeAt_outside (m : Memory) (a x : Word) {i : Instr} (hi : i.wf = true)
    (hx : i.length ≤ (x - a).toNat) : (encodeAt m i a).1.read x = m.read x := by
  have hlen : (encode i).length = i.length := length_encode hi
  have hmax : i.length ≤ 38 := i.length_le_maxLength
  have hend : (encode i)[(x - a).toNat]? = none := List.getElem?_eq_none (by omega)
  rw [encodeAt, read_memWriteBytes _ _ _ _ (by omega), hend, Option.getD_none]

/-- Encoding what was decoded writes the bytes that stand there; the bound is the one the rules of a write need. -/
theorem encodeAt_of_decodeAt {m : Memory} {a : Word} {i : Instr} {n : Nat} (h : decodeAt m a = .ok (i, n)) :
    n ≤ 65536 ∧ (encodeAt m i a).1 = memWriteBytes m a (memBytes m a n) := by
  obtain ⟨-, rfl, hbytes⟩ := decodeAt_eq_ok_iff.mp h
  have hmax : i.length ≤ 38 := i.length_le_maxLength
  exact ⟨by omega, by rw [hbytes, encodeAt]⟩

/-- An opcode byte without a row is refused by its value (R85). -/
theorem decodeAt_of_invalidOpcode {m : Memory} {a : Word} (h : 0x54 < (m.read a).toNat) :
    decodeAt m a = .error (.invalidOpcode (m.read a)) := by
  rcases decodeAt_cases m a with ⟨i, -, hok⟩ | ⟨-, herr⟩ | ⟨hop, -, -⟩
  · have := toNat_read_of_decodeAt hok
    have := i.ctorIdx_le
    omega
  · exact herr
  · rw [hop] at h
    exact absurd h (by decide)

/-- An operand byte of CHSET that is no choice is refused by its value (R86). -/
theorem decodeAt_of_invalidChoice {m : Memory} {a : Word} (hop : m.read a = 0x44) (hb : 4 < (m.read (a + 1)).toNat) :
    decodeAt m a = .error (.invalidChoice (m.read (a + 1))) := by
  have hc : choiceOfByte (m.read (a + 1)) = none := (choiceOfByte_eq_none_iff _).mpr hb
  have hd : decode (memBytes m a maxLength) = .error (.invalidChoice (m.read (a + 1))) := by
    rw [maxLength, memBytes_succ, memBytes_succ, hop, decode_cons]
    exact (decodeRow_chset _).trans (by rw [formatC_cons, hc])
  rw [decodeAt, hd]

/-! ### The step of a failed decode (R292) -/

/-- A step whose decode fails takes the fault, and the state then has no step (R292, R113). -/
theorem step_next_ne_next_of_takeFault {s : State} {cause : FaultCause} {byte : Byte}
    (h : step s = .next (s.takeFault cause byte)) (t u : State) (ht : step s = .next t) : step t ≠ .next u := by
  obtain rfl : t = s.takeFault cause byte := by
    rw [h] at ht
    cases ht
    rfl
  intro hu
  obtain ⟨-, hfault, -⟩ := step_next_cases hu
  cases hfault

theorem step_of_invalidOpcode {s : State} {op : Byte} (hs : s.Running)
    (h : decodeAt s.mem s.ep = .error (.invalidOpcode op)) : step s = .next (s.takeFault .invalidOpcode op) := by
  obtain ⟨hhalted, hfault⟩ := hs
  simp [step, hhalted, hfault, h]

theorem step_of_invalidChoice {s : State} {b : Byte} (hs : s.Running)
    (h : decodeAt s.mem s.ep = .error (.invalidChoice b)) : step s = .next (s.takeFault .invalidChoice b) := by
  obtain ⟨hhalted, hfault⟩ := hs
  simp [step, hhalted, hfault, h]

end Sys2Proof.Machine

namespace Sys2Proof.Claims

open Sys2Proof.Machine

/-- Settles O1: the bytes at an address are the encoding of the instruction decoded there, in both directions. -/
theorem encodeDecodeInverse : Obligations.EncodeDecodeInverse := by
  refine ⟨fun m a i hi => ⟨decodeAt_encodeAt m a hi, rfl, fun x => read_encodeAt_outside m a x hi⟩,
    fun m a i n hdec => ?_⟩
  obtain ⟨hn, hsame⟩ := encodeAt_of_decodeAt hdec
  obtain ⟨hi, -, -⟩ := decodeAt_eq_ok_iff.mp hdec
  refine ⟨hi, fun x => ?_, fun hm => ?_⟩
  · rw [hsame, read_memWriteBytes_memBytes m a x hn]
  · rw [hsame, memWriteBytes_memBytes hm a hn]

/-- Settles O3: of the three answers of a decode each error comes exactly with its condition on the first two bytes, so
an instruction is what is answered when neither condition holds. -/
theorem decodeFailsExactly : Obligations.DecodeFailsExactly := by
  intro m a
  refine ⟨fun op => ⟨fun h => ?_, ?_⟩, fun b => ⟨fun h => ?_, ?_⟩, ?_, ?_⟩
  · rcases decodeAt_cases m a with ⟨i, -, answer⟩ | ⟨hgt, answer⟩ | ⟨-, -, answer⟩ <;> cases answer.symm.trans h
    exact ⟨rfl, hgt⟩
  · rintro ⟨rfl, hgt⟩
    exact decodeAt_of_invalidOpcode hgt
  · rcases decodeAt_cases m a with ⟨i, -, answer⟩ | ⟨-, answer⟩ | ⟨hop, hgt, answer⟩ <;> cases answer.symm.trans h
    exact ⟨hop, rfl, hgt⟩
  · rintro ⟨hop, rfl, hgt⟩
    exact decodeAt_of_invalidChoice hop hgt
  · rintro ⟨i, n, hok⟩
    refine ⟨toNat_read_of_decodeAt hok ▸ i.ctorIdx_le, fun ⟨hop, hgt⟩ => ?_⟩
    cases hok.symm.trans (decodeAt_of_invalidChoice hop hgt)
  · rintro ⟨hle, hchoice⟩
    rcases decodeAt_cases m a with ⟨i, -, hok⟩ | ⟨hgt, -⟩ | ⟨hop, hgt, -⟩
    · exact ⟨i, i.length, hok⟩
    · omega
    · exact absurd ⟨hop, hgt⟩ hchoice

/-- Every row of R90 is reached: the opcode byte at address 0 of a memory of zeros decodes, operand bytes 0 being valid in
every format. -/
theorem decodeAt_write_opcode {op : Byte} (hop : op.toNat ≤ 0x54) :
    ∃ i n, decodeAt (Memory.write [] 0 op) 0 = .ok (i, n) := by
  obtain ⟨-, -, hok⟩ := decodeFailsExactly (Memory.write [] 0 op) 0
  refine hok.mpr ⟨by rwa [Memory.read_write_self], fun ⟨_, hgt⟩ => ?_⟩
  rw [Memory.read_write, if_neg (by decide), Memory.read_nil] at hgt
  exact absurd hgt (by decide)

/-- Settles O2: the opcode byte of what was decoded is the number of its constructor, and the length is a function of
the opcode byte. -/
theorem opcodeMapIsBijective : Obligations.OpcodeMapIsBijective := by
  refine ⟨fun m m' a a' i i' n n' h h' => ⟨?_, fun hread => ?_⟩, fun op hop => ?_, fun m a i n h => ?_⟩
  · rw [← BitVec.toNat_inj, toNat_read_of_decodeAt h, toNat_read_of_decodeAt h']
  · rw [← lengthOfOpcode_read_of_decodeAt h, ← lengthOfOpcode_read_of_decodeAt h', hread]
  · obtain ⟨i, n, h⟩ := decodeAt_write_opcode hop
    exact ⟨Memory.write [] 0 op, 0, i, n, Memory.read_write_self [] 0 op, h⟩
  · exact toNat_read_of_decodeAt h ▸ i.ctorIdx_le

/-- Settles O4: a decode answers the instruction whose encoding stands in the `n` bytes, so equal bytes get the same
answer. -/
theorem decodeReadsOnlyItsBytes : Obligations.DecodeReadsOnlyItsBytes := by
  intro m m' a a' i n hdec hsame
  obtain ⟨hi, hn, hbytes⟩ := decodeAt_eq_ok_iff.mp hdec
  have hbytes' : memBytes m' a' n = memBytes m a n := (memBytes_eq_memBytes_iff m' m a' a n).mpr hsame
  exact decodeAt_eq_ok_iff.mpr ⟨hi, hn, hbytes'.trans hbytes⟩

/-- Settles O9: the decode answers the error of R85 or R86, and taking the fault writes FAULT alone. -/
theorem failedDecodeTakesFault : Obligations.FailedDecodeTakesFault := by
  refine fun s hs => ⟨fun hgt => ?_, fun hop hgt => ?_⟩
  · have herr := decodeAt_of_invalidOpcode hgt
    have hstep := step_of_invalidOpcode hs herr
    exact ⟨herr, hstep, step_next_ne_next_of_takeFault hstep⟩
  · have herr := decodeAt_of_invalidChoice hop hgt
    have hstep := step_of_invalidChoice hs herr
    exact ⟨herr, hstep, step_next_ne_next_of_takeFault hstep⟩

end Sys2Proof.Claims

/-! ### The engine: which states have a step, and what the step leaves them (R110, R113, R114) -/

namespace Sys2Proof.Machine

/-! #### The control instructions (R118, R120, R123) -/

theorem exec_tgf (s : State) : exec .tgf s = .next (s.setFlag (!s.flag)) := rfl

section
variable {s : State}

theorem exec_concl_of_doom (h : s.doom = true) : exec .concl s = .next (s.setHalted true) := by
  simp [exec, execConcl, h]

theorem exec_concl_of_not_doom (h : s.doom = false) : exec .concl s = .next s := by simp [exec, execConcl, h]

theorem exec_setdp_of_allowed {addr : Word} (h : allowed addr = true) :
    exec (.setdp addr) s = .next (s.setDp addr) := by
  simp [exec, execSetdp, h]

theorem exec_setdp_of_not_allowed {addr : Word} (h : ¬allowed addr = true) :
    exec (.setdp addr) s = .next (s.setFlag true) := by
  simp [exec, execSetdp, h, raiseFlag_eq]

end

/-! #### What keeps a Running state Running

CONCL alone writes HALTED and no instruction writes FAULT. A write of another element keeps `Running` by definition, so
only the shared operations that branch need a lemma. -/

section
variable {s : State} (hs : s.Running)

theorem State.Running.ite {t u : State} {c : Prop} [Decidable c] (ht : t.Running) (hu : u.Running) :
    (if c then t else u).Running := by
  split
  · exact ht
  · exact hu

theorem State.Running.takeLine {use : State → List Byte → State}
    (hfree : ∀ n ln, (use (s.setLineReqs n) ln).Running) (hlisted : ∀ lines ln, (use (s.setLines lines) ln).Running) :
    (s.takeLine use).Running := by
  rcases takeLine_cases s use with ⟨-, heq⟩ | ⟨ln, rest, -, heq⟩ <;> rw [heq]
  · exact hfree _ _
  · exact hlisted rest ln

include hs

theorem State.Running.stkOrFlag (stk : Option (List Byte)) : (s.stkOrFlag stk).Running := by
  cases stk with
  | none => exact hs
  | some _ => exact hs

theorem State.Running.strOrFlag (str : Option (List Byte)) : (s.strOrFlag str).Running := by
  cases str with
  | none => exact hs
  | some _ => exact hs

theorem State.Running.popVal {n : Nat} {use : State → Nat → State}
    (huse : ∀ stk v, (use (s.setStk stk) v).Running) : (s.popVal n use).Running := by
  rcases popVal_cases s n use with ⟨-, heq⟩ | ⟨-, heq⟩ <;> rw [heq]
  · exact hs
  · exact huse _ _

theorem State.Running.popEpIf (cond : Bool) : (s.popEpIf cond).Running :=
  .ite (hs.popVal fun _ _ => hs) hs

theorem State.Running.setSlot (idx v : Byte) : (s.setSlot idx v).Running := .ite hs hs

theorem State.Running.gated {body : State → State} (hbody : (body s).Running) : (s.gated body).Running :=
  .ite hbody hs

theorem State.Running.takeKey {len : Nat} {use : State → Word32 → State}
    (huse : ∀ keys c, (use (s.setKeys keys) c).Running) : (s.takeKey len use).Running := by
  rcases takeKey_cases s len use with ⟨-, heq⟩ | ⟨c, rest, -, heq⟩ <;> rw [heq]
  · exact hs
  · exact huse rest c

end

/-- Every instruction answers a next state in every state (R121): no arm of the dispatch faults or is refused. -/
theorem exists_exec_next (i : Instr) (s : State) : ∃ t, exec i s = .next t := by
  cases i <;> exact ⟨_, rfl⟩

/-- CONCL with DOOM = 1 is the only instruction that ends Running (R114). -/
theorem exec_running {i : Instr} {s : State} (hs : s.Running) (hi : ¬(i = .concl ∧ s.doom = true)) :
    ∃ t, exec i s = .next t ∧ t.Running := by
  cases i with
  | concl =>
    have hdoom : s.doom = false := by simpa using hi
    exact ⟨s, exec_concl_of_not_doom hdoom, hs⟩
  | salloc | sdealloc | pushi | pushw | pushm | pusha | pushb | pushl | pushf | pushch | pushnum | pushs | pushcnt =>
    exact ⟨_, rfl, hs.stkOrFlag _⟩
  | popm | popa | popb | popl | popf | popnum => exact ⟨_, rfl, hs.popVal fun _ _ => hs⟩
  | popch => exact ⟨_, rfl, hs.popVal fun _ _ => .ite hs hs⟩
  | pep | pepz | pepp | pepn | pepf | pepaz | pepd => exact ⟨_, rfl, hs.popEpIf _⟩
  | sldm | sapp | sappm => exact ⟨_, rfl, hs.strOrFlag _⟩
  | sget idx =>
    refine ⟨_, rfl, ?_⟩
    split
    · exact hs
    · exact hs
  | rset | rseti => exact ⟨_, rfl, hs.setSlot _ _⟩
  | setdp | rget | rcpm | sset | cntinc | cntdec | latclr => exact ⟨_, rfl, .ite hs hs⟩
  | getch => exact ⟨_, rfl, hs.gated (hs.takeKey fun _ _ => hs)⟩
  | getln => exact ⟨_, rfl, hs.gated (.takeLine (fun _ _ => .ite hs hs) fun _ _ => .ite hs hs)⟩
  | wrch | wrlns | wrlnm | tgdbg | dbgst | dbgstc | dbgmem | dbgstk => exact ⟨_, rfl, hs.gated hs⟩
  | _ => exact ⟨_, rfl, hs⟩

/-! #### The step -/

/-- R110 and R111: the decoded instruction runs with EP already advanced past it. -/
theorem step_of_decodeAt_ok {s : State} {i : Instr} {n : Nat} (hs : s.Running)
    (h : decodeAt s.mem s.ep = .ok (i, n)) : step s = exec i (s.advance n) := by
  obtain ⟨hhalted, hfault⟩ := hs
  simp [step, hhalted, hfault, h]

theorem step_of_halted {s : State} (h : s.halted = true) : step s = .fault (.halted s.a) := by simp [step, h]

theorem step_of_faulted {s : State} {rec : FaultRecord} (hhalted : s.halted = false) (hfault : s.fault = some rec) :
    step s = .fault (.faulted rec) := by
  simp [step, hhalted, hfault]

/-- From Running there is a step: the decode answers an instruction or one of the two causes, never `truncated`. -/
theorem exists_step_next {s : State} (hs : s.Running) : ∃ t, step s = .next t := by
  rcases decodeAt_cases s.mem s.ep with ⟨i, -, hok⟩ | ⟨-, herr⟩ | ⟨-, -, herr⟩
  · obtain ⟨t, ht⟩ := exists_exec_next i (s.advance i.length)
    exact ⟨t, (step_of_decodeAt_ok hs hok).trans ht⟩
  · exact ⟨_, step_of_invalidOpcode hs herr⟩
  · exact ⟨_, step_of_invalidChoice hs herr⟩

/-- Everything a step can answer: a terminal state its Lean fault, a Running state a next state. -/
theorem step_cases (s : State) :
    (s.halted = true ∧ step s = .fault (.halted s.a)) ∨
      (∃ rec, s.fault = some rec ∧ step s = .fault (.faulted rec)) ∨ (s.Running ∧ ∃ t, step s = .next t) := by
  cases hhalted : s.halted with
  | true => exact .inl ⟨rfl, step_of_halted hhalted⟩
  | false =>
    cases hfault : s.fault with
    | some rec => exact .inr (.inl ⟨rec, rfl, step_of_faulted hhalted hfault⟩)
    | none => exact .inr (.inr ⟨⟨hhalted, hfault⟩, exists_step_next ⟨hhalted, hfault⟩⟩)

theorem exists_step_next_iff {s : State} : (∃ t, step s = .next t) ↔ s.Running := by
  constructor
  · rintro ⟨t, ht⟩
    obtain ⟨hhalted, hfault, -⟩ := step_next_cases ht
    exact ⟨hhalted, hfault⟩
  · exact exists_step_next

theorem running_iff_not_terminal {s : State} : s.Running ↔ ¬s.Terminal := by
  simp [State.Running, State.Terminal]

/-- R114: a step halts, takes the fatal fault, or stays Running, each with the one thing the decode and DOOM say. -/
theorem step_transition {s t : State} (h : step s = .next t) :
    ((∃ n, decodeAt s.mem s.ep = .ok (.concl, n)) ∧ s.doom = true ∧ t.halted = true ∧ t.fault = none) ∨
      ((∃ e, decodeAt s.mem s.ep = .error e) ∧ t.halted = false ∧ t.fault ≠ none) ∨
      ((∃ i n, decodeAt s.mem s.ep = .ok (i, n) ∧ ¬(i = .concl ∧ s.doom = true)) ∧ t.Running) := by
  obtain ⟨hhalted, hfault, ⟨i, n, hdec, hexec⟩ | ⟨op, hdec, rfl⟩ | ⟨b, hdec, rfl⟩⟩ := step_next_cases h
  · by_cases hi : i = .concl ∧ s.doom = true
    · obtain ⟨rfl, hdoom⟩ := hi
      have hconcl : exec .concl (s.advance n) = .next ((s.advance n).setHalted true) := exec_concl_of_doom hdoom
      obtain rfl : (s.advance n).setHalted true = t := Host.Outcome.next.inj (hconcl.symm.trans hexec)
      exact .inl ⟨⟨n, hdec⟩, hdoom, rfl, hfault⟩
    · have hadvanced : (s.advance n).Running := ⟨hhalted, hfault⟩
      obtain ⟨u, hu, hrunning⟩ := exec_running hadvanced hi
      obtain rfl : u = t := Host.Outcome.next.inj (hu.symm.trans hexec)
      exact .inr (.inr ⟨⟨i, n, hdec, hi⟩, hrunning⟩)
  · exact .inr (.inl ⟨⟨_, hdec⟩, hhalted, Option.some_ne_none _⟩)
  · exact .inr (.inl ⟨⟨_, hdec⟩, hhalted, Option.some_ne_none _⟩)

/-! #### The run loop (R112, R113) -/

/-- The states a run goes through: `chain (j + 1)` is the state after the step from `chain j`, for each `j < n`. -/
def StepChain (n : Nat) (chain : Nat → State) : Prop := ∀ j < n, step (chain j) = .next (chain (j + 1))

/-- The chain with one more state in front. -/
def consState (s : State) (chain : Nat → State) : Nat → State
  | 0 => s
  | j + 1 => chain j

theorem StepChain.cons {s : State} {n : Nat} {chain : Nat → State} (h : StepChain n chain)
    (hs : step s = .next (chain 0)) : StepChain (n + 1) (consState s chain) := by
  intro j hj
  cases j with
  | zero => exact hs
  | succ j => exact h j (Nat.lt_of_succ_lt_succ hj)

theorem StepChain.tail {n : Nat} {chain : Nat → State} (h : StepChain (n + 1) chain) :
    StepChain n fun j => chain (j + 1) := fun j hj => h (j + 1) (Nat.succ_lt_succ hj)

/-- A state is the last of a run exactly when it has no step, and its result is A or the triple (R113). -/
theorem result_eq_some_iff {s : State} {r : RunResult} :
    s.result = some r ↔ (∀ t, step s ≠ .next t) ∧
      ((s.fault = none ∧ r = .exit s.a s) ∨ ∃ rec, s.fault = some rec ∧ r = .abort rec s) := by
  have hstep : (∀ t, step s ≠ .next t) ↔ ¬s.Running := by rw [← exists_step_next_iff, not_exists]
  rw [hstep]
  rcases result_cases s with ⟨rec, hfault, hres⟩ | ⟨hfault, hhalted, hres⟩ | ⟨hfault, hhalted, hres⟩
  · simp [hres, hfault, State.Running, @eq_comm _ r]
  · simp [hres, hfault, hhalted, State.Running, @eq_comm _ r]
  · simp [hres, hfault, hhalted, State.Running]

theorem step_ne_next_of_result {s : State} {r : RunResult} (h : s.result = some r) (t : State) : step s ≠ .next t :=
  (result_eq_some_iff.mp h).1 t

/-- A run ends within `k` steps exactly when at most `k` steps lead to a state that gives its result. -/
theorem runFrom_eq_some_iff {k : Nat} {s : State} {r : RunResult} :
    runFrom k s = some r ↔
      ∃ n chain, n ≤ k ∧ chain 0 = s ∧ StepChain n chain ∧ (chain n).result = some r := by
  constructor
  · intro h
    induction k generalizing s with
    | zero => exact ⟨0, fun _ => s, le_rfl, rfl, fun j hj => absurd hj j.not_lt_zero, h⟩
    | succ k ih =>
      by_cases hstep : ∃ t, step s = .next t
      · obtain ⟨t, ht⟩ := hstep
        rw [runFrom_succ_of_next ht] at h
        obtain ⟨n, chain, hn, rfl, hchain, hres⟩ := ih h
        exact ⟨n + 1, consState s chain, Nat.succ_le_succ hn, rfl, hchain.cons ht, hres⟩
      · rw [runFrom_of_not_next (not_exists.mp hstep)] at h
        exact ⟨0, fun _ => s, k.succ.zero_le, rfl, fun j hj => absurd hj j.not_lt_zero, h⟩
  · rintro ⟨n, chain, hn, rfl, hchain, hres⟩
    induction n generalizing k chain with
    | zero => rw [runFrom_of_not_next (step_ne_next_of_result hres), hres]
    | succ n ih =>
      obtain ⟨k, rfl⟩ : ∃ k', k = k' + 1 := ⟨k - 1, by omega⟩
      rw [runFrom_succ_of_next (hchain 0 n.succ_pos)]
      exact ih _ (Nat.le_of_succ_le_succ hn) hchain.tail hres

/-- More steps do not change a result: the chain that gave it is still short enough. -/
theorem runFrom_mono {k k' : Nat} {s : State} {r : RunResult} (h : runFrom k s = some r) (hk : k ≤ k') :
    runFrom k' s = some r := by
  obtain ⟨n, chain, hn, hstart, hchain, hres⟩ := runFrom_eq_some_iff.mp h
  exact runFrom_eq_some_iff.mpr ⟨n, chain, hn.trans hk, hstart, hchain, hres⟩

theorem State.RunEnds.unique {s : State} {r r' : RunResult} (h : s.RunEnds r) (h' : s.RunEnds r') : r = r' := by
  obtain ⟨k, hk⟩ := h
  obtain ⟨k', hk'⟩ := h'
  have hmax := runFrom_mono hk (le_max_left k k')
  rw [runFrom_mono hk' (le_max_right k k')] at hmax
  exact (Option.some.inj hmax).symm

theorem runsForEver_iff {s : State} : s.RunsForEver ↔ ∀ r, ¬s.RunEnds r := by
  simp only [State.RunsForEver, State.RunEnds, Option.eq_none_iff_forall_ne_some, not_exists]
  exact forall_comm

/-- A step is the first turn of the loop, so the run from its next state has the same results. -/
theorem runEnds_iff_of_step {s t : State} (h : step s = .next t) (r : RunResult) : s.RunEnds r ↔ t.RunEnds r := by
  constructor
  · rintro ⟨k, hk⟩
    exact ⟨k, by rw [← runFrom_succ_of_next h]; exact runFrom_mono hk k.le_succ⟩
  · rintro ⟨k, hk⟩
    exact ⟨k + 1, by rw [runFrom_succ_of_next h, hk]⟩

/-- A state whose step is itself has no result: none as the last state, for it has a step, and none after one. -/
theorem runsForEver_of_step_self {s : State} (h : step s = .next s) : s.RunsForEver := by
  intro k
  induction k with
  | zero => exact Option.eq_none_iff_forall_ne_some.mpr fun r hr => step_ne_next_of_result hr s h
  | succ k ih => rw [runFrom_succ_of_next h, ih]

/-! #### GETCH with the gate open (R263) -/

/-- GETCH held: the instruction takes back the fetch's advance. -/
theorem exec_getch_of_no_key {s : State} (hgate : s.gate = true) (hkeys : s.keys = []) :
    exec .getch s = .next (s.hold 1) := by
  simp [exec, execGetch, State.gated, hgate, State.takeKey, hkeys, Instr.length]

theorem exec_getch_of_key {s : State} {c : Word32} {rest : List Word32} (hgate : s.gate = true)
    (hkeys : s.keys = c :: rest) : exec .getch s = .next ((s.setKeys rest).setCh c) := by
  simp [exec, execGetch, State.gated, hgate, State.takeKey, hkeys]

theorem step_of_holding {s : State} (h : s.Holding) : step s = .next s := by
  obtain ⟨hrunning, hdec, hgate, hkeys⟩ := h
  have hheld : exec .getch (s.advance 1) = .next ((s.advance 1).hold 1) := exec_getch_of_no_key hgate hkeys
  rw [step_of_decodeAt_ok hrunning hdec, hheld, hold_advance]

/-- The answer to a held GETCH is consumed by the next step, so it is not listed afterwards. -/
theorem step_answerChar_of_holding {s : State} (h : s.Holding) (c : Word32) :
    step (s.answerChar c) = .next { s with ch := c, ep := s.ep + 1 } := by
  obtain ⟨hrunning, hdec, hgate, hkeys⟩ := h
  have hstep : step (s.answerChar c) = exec .getch ((s.answerChar c).advance 1) := step_of_decodeAt_ok hrunning hdec
  have hlisted : ((s.answerChar c).advance 1).keys = c :: [] := by simp [State.answerChar, advance_eq, hkeys]
  have hanswered : exec .getch ((s.answerChar c).advance 1) =
      .next ((((s.answerChar c).advance 1).setKeys []).setCh c) := exec_getch_of_key hgate hlisted
  rw [hstep, hanswered, ← hkeys]
  rfl

end Sys2Proof.Machine

/-! ### The dot pointer's addresses (R124) -/

namespace Sys2Proof.Claims

open Sys2Proof.Machine ArithmeticFunction

theorem allowed_iff (addr : Word) : allowed addr = true ↔ addr.toNat ∈ allowList := by simp [allowed]

/-- Each address of ALLOW stands among the first 25 Fibonacci numbers, so that it is one is a finite check. -/
theorem isFibonacci_of_mem_allowList {n : Nat} (h : n ∈ allowList) : IsFibonacci n := by
  have hindex : ∀ n ∈ allowList, ∃ k < 25, Nat.fib k = n := by decide
  obtain ⟨k, -, hk⟩ := hindex n h
  exact ⟨k, hk⟩

/-- A prime or semiprime has one or two prime factors, counted with multiplicity. -/
theorem cardFactors_of_prime_or_isSemiprime {n : Nat} (h : n.Prime ∨ IsSemiprime n) :
    cardFactors n = 1 ∨ cardFactors n = 2 := by
  rcases h with hn | ⟨p, q, hp, hq, rfl⟩
  · exact .inl (cardFactors_apply_prime hn)
  · exact .inr (by rw [cardFactors_mul hp.ne_zero hq.ne_zero, cardFactors_apply_prime hp, cardFactors_apply_prime hq])

/-- A product of three numbers above 1 has three prime factors or more. -/
theorem not_prime_or_isSemiprime_mul_mul {a b c : Nat} (ha : 1 < a) (hb : 1 < b) (hc : 1 < c) :
    ¬((a * b * c).Prime ∨ IsSemiprime (a * b * c)) := by
  intro h
  have hcard := cardFactors_of_prime_or_isSemiprime h
  rw [cardFactors_mul (by positivity) (by omega), cardFactors_mul (by omega) (by omega)] at hcard
  have := cardFactors_pos_iff_one_lt.mpr ha
  have := cardFactors_pos_iff_one_lt.mpr hb
  have := cardFactors_pos_iff_one_lt.mpr hc
  omega

theorem one_lt_of_prime_or_isSemiprime {n : Nat} (h : n.Prime ∨ IsSemiprime n) : 1 < n := by
  have hcard := cardFactors_of_prime_or_isSemiprime h
  exact cardFactors_pos_iff_one_lt.mp (by omega)

/-- Every address of ALLOW is one of eight primes or a product of two primes. -/
theorem prime_or_isSemiprime_of_mem_allowList {n : Nat} (h : n ∈ allowList) : n.Prime ∨ IsSemiprime n := by
  have hsplit : ∀ n ∈ allowList, n ∈ [2, 3, 5, 13, 89, 233, 1597, 28657] ∨
      ∃ pq ∈ [(3, 7), (2, 17), (5, 11), (13, 29), (37, 113), (89, 199)], n = pq.1 * pq.2 := by decide
  have hprime : ∀ p ∈ [2, 3, 5, 13, 89, 233, 1597, 28657], p.Prime := by norm_num
  have hfactors : ∀ pq ∈ [(3, 7), (2, 17), (5, 11), (13, 29), (37, 113), (89, 199)], pq.1.Prime ∧ pq.2.Prime := by
    norm_num
  rcases hsplit n h with hn | ⟨⟨p, q⟩, hpq, rfl⟩
  · exact .inl (hprime n hn)
  · obtain ⟨hp, hq⟩ := hfactors _ hpq
    exact .inr ⟨p, q, hp, hq, rfl⟩

/-- The Fibonacci numbers below 65536 are the first 25. -/
theorem exists_fib_eq_of_lt {n : Nat} (h : IsFibonacci n) (hn : n < 65536) : ∃ k < 25, Nat.fib k = n := by
  obtain ⟨k, rfl⟩ := h
  refine ⟨k, ?_, rfl⟩
  by_contra hge
  have hmono : Nat.fib 25 ≤ Nat.fib k := Nat.fib_mono (not_lt.mp hge)
  have h25 : Nat.fib 25 = 75025 := by norm_num
  omega

/-- Of the first 25 Fibonacci numbers those not in ALLOW are 0, 1 or a product of three. -/
theorem fib_cases : ∀ k < 25, Nat.fib k ∈ allowList ∨ Nat.fib k ≤ 1 ∨
    ∃ abc ∈ [(2, 2, 2), (2, 2, 36), (2, 5, 61), (3, 7, 47), (2, 2, 646), (3, 5, 451), (2, 13, 421), (2, 2, 11592)],
      (1 < abc.1 ∧ 1 < abc.2.1 ∧ 1 < abc.2.2) ∧ Nat.fib k = abc.1 * abc.2.1 * abc.2.2 := by decide

theorem mem_allowList_of_isFibonacci {n : Nat} (hn : n < 65536) (hfib : IsFibonacci n)
    (hfactors : n.Prime ∨ IsSemiprime n) : n ∈ allowList := by
  obtain ⟨k, hk, rfl⟩ := exists_fib_eq_of_lt hfib hn
  rcases fib_cases k hk with hmem | hle | ⟨⟨a, b, c⟩, -, ⟨ha, hb, hc⟩, heq⟩
  · exact hmem
  · exact absurd (one_lt_of_prime_or_isSemiprime hfactors) (by omega)
  · rw [heq] at hfactors
    exact absurd hfactors (not_prime_or_isSemiprime_mul_mul ha hb hc)

/-- R124: ALLOW is the list of the Fibonacci numbers below 65536 that are prime or semiprime. -/
theorem isFibonacci_and_prime_or_isSemiprime_iff {n : Nat} (hn : n < 65536) :
    IsFibonacci n ∧ (n.Prime ∨ IsSemiprime n) ↔ n ∈ allowList :=
  ⟨fun ⟨hfib, hfactors⟩ => mem_allowList_of_isFibonacci hn hfib hfactors,
    fun h => ⟨isFibonacci_of_mem_allowList h, prime_or_isSemiprime_of_mem_allowList h⟩⟩

/-! ### The encoding line of an instruction's rule (R81, R82) -/

/-- What an instruction's encoding line says follows from the encoder alone: the decoder is its inverse (R88). -/
theorem encodes_of_encode_eq {i : Instr} {bs : List Byte} (hi : i.wf = true) (h : encode i = bs) : Encodes i bs := by
  subst h
  exact ⟨rfl, (length_encode hi).symm, decode_encode_append hi⟩

/-- An address operand stands in the encoding as its two bytes, the high one first (R82). -/
theorem beBytes_word_eq_hi8_lo8 (x : Word) : beBytes 2 x.toNat = [hi8 x, lo8 x] := by
  have hhi : BitVec.ofNat 8 (x.toNat / 256) = hi8 x :=
    congrArg (BitVec.ofNat 8) (Nat.shiftRight_eq_div_pow x.toNat 8).symm
  rw [beBytes_word, hhi]
  rfl

/-! ### The claims about the engine and the control instructions -/

/-- Settles O7: the three answers of a step. -/
theorem exactlyRunningStatesStep : Obligations.ExactlyRunningStatesStep :=
  fun _ => ⟨exists_step_next_iff, step_of_halted, fun _ => step_of_faulted⟩

/-- Settles O8: no arm of the dispatch answers anything but a next state, and none of the three answers of a step is a
refusal. -/
theorem stepNeverRefuses : Obligations.StepNeverRefuses := by
  refine ⟨exists_exec_next, fun s r => ?_⟩
  rcases step_cases s with ⟨-, h⟩ | ⟨rec, -, h⟩ | ⟨-, t, h⟩ <;> simp [h]

/-- Settles O10: the three kinds of step exclude one another, so each is told by the state it leaves. -/
theorem transitionsOfTheStateMachine : Obligations.TransitionsOfTheStateMachine := by
  refine ⟨fun s => exists_step_next_iff.trans running_iff_not_terminal, fun s t h => ?_⟩
  rcases step_transition h with ⟨⟨n, hdec⟩, hdoom, hhalted, hfault⟩ | ⟨⟨e, hdec⟩, hhalted, hfault⟩ |
    ⟨⟨i, n, hdec, hi⟩, hhalted, hfault⟩
  · simp [State.Running, hdec, hdoom, hhalted, hfault]
  · simp [State.Running, hdec, hhalted, hfault]
  · simpa [State.Running, hdec, hhalted, hfault] using hi

/-- Settles O25: ALLOW is R124's set, and SETDP tests membership in it. -/
theorem setdpAcceptsExactlyAllowList : Obligations.SetdpAcceptsExactlyAllowList := by
  refine ⟨fun addr => encodes_of_encode_eq rfl (congrArg _ (beBytes_word_eq_hi8_lo8 addr)), fun addr s => ?_,
    fun n hn => isFibonacci_and_prime_or_isSemiprime_iff hn⟩
  rw [isFibonacci_and_prime_or_isSemiprime_iff addr.isLt, ← allowed_iff]
  exact ⟨exec_setdp_of_allowed, exec_setdp_of_not_allowed⟩

/-- Settles O54: the chain of a run is the sequence of its turns, and its last state is one without a step. -/
theorem runRepeatsStep : Obligations.RunRepeatsStep := by
  refine ⟨fun p image keys lines bound r => ?_, fun s m bound hhalted hfault => ?_⟩
  · rw [run, runFrom_eq_some_iff]
    simp only [result_eq_some_iff]
    exact Iff.rfl
  · have hstep : step { s with mem := m } = .fault (.halted s.a) := step_of_halted hhalted
    refine ⟨hstep.trans (step_of_halted hhalted).symm, ?_⟩
    rw [runFrom_of_not_next (by simp [hstep]), result_eq_some_iff]
    exact ⟨by simp [hstep], .inl ⟨hfault, rfl⟩⟩

/-- Settles O55: a result stays the result of every longer run, and a step is the first turn of the loop. -/
theorem runEndsOnceOrNever : Obligations.RunEndsOnceOrNever := by
  refine fun s => ⟨fun k k' r => runFrom_mono, fun r r' => State.RunEnds.unique, runsForEver_iff, fun t h => ?_⟩
  have hends := runEnds_iff_of_step h
  exact ⟨hends, by simp only [runsForEver_iff, hends]⟩

/-- Settles O56: a held GETCH steps to the state it is in; with the answer listed its step writes CH and consumes it. -/
theorem unansweredGetCharNeverEnds : Obligations.UnansweredGetCharNeverEnds := fun _ h =>
  ⟨runsForEver_of_step_self (step_of_holding h), fun c => runEnds_iff_of_step (step_answerChar_of_holding h c)⟩

/-- Settles O6: the fetch's advance is the write of EP. -/
theorem stepRunsDecodedInstruction : Obligations.StepRunsDecodedInstruction := fun _ _ _ => step_of_decodeAt_ok

/-- Settles O24: each of the five is one write, under its condition. -/
theorem controlInstructions : Obligations.ControlInstructions := by
  refine ⟨encodes_of_encode_eq rfl rfl, encodes_of_encode_eq rfl rfl, encodes_of_encode_eq rfl rfl,
    encodes_of_encode_eq rfl rfl, encodes_of_encode_eq rfl rfl, fun s => ⟨rfl, rfl, exec_concl_of_doom,
    exec_concl_of_not_doom, rfl, fun h => ?_, fun h => ?_⟩⟩
  · rw [Runs, exec_tgf, h]
    rfl
  · rw [Runs, exec_tgf, h]
    rfl

end Sys2Proof.Claims

/-! ### Arithmetic, logic and comparison (R130 to R141) -/

namespace Sys2Proof

theorem fits16_toInt (w : Word) : fits16 w.toInt = true := by
  have hlow : -32768 ≤ w.toInt := BitVec.le_toInt w
  have hhigh : w.toInt < 32768 := BitVec.toInt_lt
  rw [fits16_iff]
  omega

/-- NOT of a pattern reads as `-B - 1` (R136). -/
theorem toInt_not (w : Word) : (~~~w).toInt = -w.toInt - 1 := by
  have hw : w.toNat < 65536 := w.isLt
  rw [BitVec.toInt_eq_toNat_cond, BitVec.toInt_eq_toNat_cond, BitVec.toNat_not]
  split <;> split <;> omega

/-- The remainder of a truncated division has the sign of the dividend. -/
theorem tmod_pos_iff {b l : Int} (h : b.tmod l ≠ 0) : 0 < b.tmod l ↔ 0 < b := by
  rcases le_or_gt 0 b with hb | hb
  · have hr := Int.tmod_nonneg l hb
    have hne : b ≠ 0 := by
      rintro rfl
      exact h (Int.zero_tmod l)
    omega
  · have hr := Int.tmod_nonneg l (Int.neg_nonneg_of_nonpos hb.le)
    rw [Int.neg_tmod] at hr
    omega

theorem abs_tmod_lt (b : Int) {l : Int} (h : l ≠ 0) : |b.tmod l| < |l| := by
  rw [Int.abs_eq_natAbs, Int.abs_eq_natAbs, Int.natAbs_tmod]
  exact Int.ofNat_lt.mpr (Nat.mod_lt _ (Int.natAbs_pos.mpr h))

end Sys2Proof

namespace Sys2Proof.Machine

/-! #### The flag of a checked result (R141 (b)) -/

section
variable {s : State} {z : Int}

theorem raiseFlagIf_of_false {c : Bool} (h : c = false) : s.raiseFlagIf c = s := by
  rw [raiseFlagIf_eq, h, Bool.or_false]
  rfl

theorem raiseFlagIf_of_true {c : Bool} (h : c = true) : s.raiseFlagIf c = s.setFlag true := by
  rw [raiseFlagIf_eq, h, Bool.or_true]

theorem writeChecked_of_fits (h : -32768 ≤ z ∧ z ≤ 32767) : s.writeChecked z = s.setB (wrap16 z) :=
  raiseFlagIf_of_false (by rw [(fits16_iff z).mpr h]; rfl)

theorem writeChecked_of_not_fits (h : ¬(-32768 ≤ z ∧ z ≤ 32767)) :
    s.writeChecked z = (s.setB (wrap16 z)).setFlag true :=
  raiseFlagIf_of_true (by rw [Bool.eq_false_iff.mpr (mt (fits16_iff z).mp h)]; rfl)

end

/-! #### What each instruction writes -/

section
variable (s : State)

theorem exec_add : exec .add s = .next (s.writeChecked (s.b.toInt + s.l.toInt)) := rfl
theorem exec_sub : exec .sub s = .next (s.writeChecked (s.b.toInt - s.l.toInt)) := rfl
theorem exec_mul : exec .mul s = .next (s.writeChecked (s.b.toInt * s.l.toInt)) := rfl
theorem exec_div : exec .div s = .next (s.setB (wrap16 (divQuotient s.b.toInt s.l.toInt))) := rfl
theorem exec_mod : exec .mod s = .next (s.setB (wrap16 (modRemainder s.b.toInt s.l.toInt))) := rfl
theorem exec_not : exec .not s = .next (s.setB (~~~s.b)) := rfl
theorem exec_and : exec .and s = .next (s.setB (s.b &&& s.l)) := rfl
theorem exec_or : exec .or s = .next (s.setB (s.b ||| s.l)) := rfl
theorem exec_xor : exec .xor s = .next (s.setB (s.b ^^^ s.l)) := rfl
theorem exec_cmp : exec .cmp s = .next ((s.setB (wrap16 (cmpResult (s.b.toInt - cmpOperand s.l)))).raiseFlagIf
    (cmpOperandClamped s.l || cmpResultClamped (s.b.toInt - cmpOperand s.l))) := rfl

end

/-! #### The truncated division (R134, R135) -/

theorem modRemainder_zero (b : Int) : modRemainder b 0 = 0 := if_pos rfl

/-- The case the rule lists apart has the general formula's value. -/
theorem modRemainder_of_ne_zero (b : Int) {l : Int} (h : l ≠ 0) : modRemainder b l = b.tmod l := by
  rw [modRemainder, if_neg h, Int.tmod_def]
  split_ifs with hwrap
  · obtain ⟨rfl, rfl⟩ := hwrap
    rfl
  · rfl

/-- The quotient of the rule is the truncated one up to the wrap: 0 for a zero divisor is the library's convention
too. -/
theorem wrap16_divQuotient (b l : Int) : wrap16 (divQuotient b l) = wrap16 (b.tdiv l) := by
  rw [divQuotient]
  split_ifs with hzero hwrap
  · rw [hzero, Int.tdiv_zero]
  · obtain ⟨rfl, rfl⟩ := hwrap
    rfl
  · rfl

/-- A remainder lies between 0 and the dividend, so it fits with it. -/
theorem fits16_modRemainder {b : Int} (hb : fits16 b = true) (l : Int) : fits16 (modRemainder b l) = true := by
  by_cases h : l = 0
  · rw [h, modRemainder_zero]
    rfl
  · have hle : (b.tmod l).natAbs ≤ b.natAbs := by
      rw [Int.natAbs_tmod]
      exact Nat.mod_le _ _
    rw [fits16_iff] at hb
    rw [modRemainder_of_ne_zero b h, fits16_iff]
    by_cases hr : b.tmod l = 0
    · omega
    · have hsign := tmod_pos_iff hr
      omega

/-! #### The comparison (R140) -/

/-- The operand is at least 0, so the difference leaves the range of `i16` only downward. -/
theorem fits16_sub_cmpOperand (b l : Word) :
    fits16 (b.toInt - cmpOperand l) = decide (-32768 ≤ b.toInt - cmpOperand l) := by
  have hb := (fits16_iff _).mp (fits16_toInt b)
  have hl : 0 ≤ cmpOperand l := by rw [cmpOperand_eq_min]; omega
  rw [Bool.eq_iff_iff, decide_eq_true_iff, fits16_iff]
  omega

theorem toInt_wrap16_cmpResult (z : Int) : (wrap16 (cmpResult z)).toInt = cmpResult z :=
  toInt_wrap16_of_fits (fits16_cmpResult z)

end Sys2Proof.Machine

namespace Sys2Proof.Claims

open Sys2Proof.Machine

/-- The signed reading of a register's number is the integer its pattern stands for (R7). -/
theorem sN_toNat {n : Nat} (x : BitVec n) : sN n x.toNat = x.toInt := by
  rw [sN, BitVec.toInt_eq_toNat_cond]
  cases n with
  | zero => simp [BitVec.of_length_zero]
  | succ n =>
    have hhalf : 2 * x.toNat < 2 ^ (n + 1) ↔ x.toNat < 2 ^ n := by omega
    simp [hhalf]

/-- Settles O26: the three write the exact result checked, and a checked write has R141 (b)'s two cases. -/
theorem checkedArithmetic : Obligations.CheckedArithmetic := by
  refine ⟨encodes_of_encode_eq rfl rfl, encodes_of_encode_eq rfl rfl, encodes_of_encode_eq rfl rfl,
    fun s i z h => ⟨wrap16 z, wrap16_congr z, ?_⟩⟩
  have hexec : exec i s = .next (s.writeChecked z) := by
    rw [sN_toNat] at h
    rcases h with ⟨rfl, rfl⟩ | ⟨rfl, rfl⟩ | ⟨rfl, rfl⟩
    · exact exec_add s
    · exact exec_sub s
    · exact exec_mul s
  rw [Runs, Runs, hexec]
  exact ⟨fun h => congrArg _ (writeChecked_of_fits h), fun h => congrArg _ (writeChecked_of_not_fits h)⟩

/-- Settles O27: the quotient is the truncated one, wrapped; the remainder is its remainder and needs no wrap. -/
theorem wrappingDivision : Obligations.WrappingDivision := by
  refine ⟨encodes_of_encode_eq rfl rfl, encodes_of_encode_eq rfl rfl, ?_⟩
  rintro s l rfl
  rw [sN_toNat]
  generalize hl : s.l.toInt = l
  refine ⟨s.b.toInt.tdiv l, modRemainder s.b.toInt l, wrap16 (divQuotient s.b.toInt l),
    wrap16 (modRemainder s.b.toInt l), ?_, fun hzero => ?_, ?_, ?_, ?_, hl ▸ exec_div s, hl ▸ exec_mod s⟩
  · rintro rfl
    exact ⟨Int.tdiv_zero _, modRemainder_zero _⟩
  · rw [modRemainder_of_ne_zero _ hzero]
    exact ⟨(Int.tdiv_mul_add_tmod _ _).symm, abs_tmod_lt _ hzero, tmod_pos_iff⟩
  · rw [wrap16_divQuotient]
    exact wrap16_congr _
  · exact toInt_wrap16_of_fits (fits16_modRemainder (fits16_toInt s.b) l)
  · rintro ⟨hb, rfl⟩
    rw [hb]
    rfl

/-- Settles O29: the result is clamped exactly when the difference is below the range, and a flag is raised by that or
by the operand's clamp. -/
theorem compareClamps : Obligations.CompareClamps := by
  refine ⟨encodes_of_encode_eq rfl rfl, ?_⟩
  rintro s lc z hlc rfl
  rw [← cmpOperand_eq_min] at hlc
  subst hlc
  have hfits := fits16_sub_cmpOperand s.b s.l
  simp only [Runs, exec_cmp]
  generalize s.b.toInt - cmpOperand s.l = z at *
  refine ⟨wrap16 (cmpResult z), fun hz => ?_, fun hz => ?_, fun hl hz => congrArg _ (raiseFlagIf_of_false ?_),
    fun h => congrArg _ (raiseFlagIf_of_true ?_)⟩
  · rw [toInt_wrap16_cmpResult, cmpResult, hfits, decide_eq_true hz, if_pos rfl]
  · rw [toInt_wrap16_cmpResult, cmpResult, hfits, decide_eq_false hz.not_ge, if_neg Bool.false_ne_true]
  · simp [cmpOperandClamped, cmpResultClamped, hfits, hz, hl]
  · rcases h with hl | hz
    · simp [cmpOperandClamped, hl]
    · simp [cmpResultClamped, hfits, hz]

/-- Settles O28: the four are the library's operations on patterns, each known bit by bit; NOT is read as an integer
too. -/
theorem logicBitByBit : Obligations.LogicBitByBit :=
  ⟨encodes_of_encode_eq rfl rfl, encodes_of_encode_eq rfl rfl, encodes_of_encode_eq rfl rfl,
    encodes_of_encode_eq rfl rfl, fun s => ⟨~~~s.b, s.b &&& s.l, s.b ||| s.l, s.b ^^^ s.l, toInt_not s.b,
      BitVec.toNat_not, fun _ => ⟨BitVec.getLsbD_and, BitVec.getLsbD_or, BitVec.getLsbD_xor⟩,
      exec_not s, exec_and s, exec_or s, exec_xor s⟩⟩

end Sys2Proof.Claims

/-! ### Register loads and stores (R150 to R159) -/

namespace Sys2Proof

/-- The bit field `v[k+7:k]` of R6 is the quotient by `2 ^ k`, cut to a byte. -/
theorem extractLsb'_byte_eq_ofNat_div {w : Nat} (x : BitVec w) (k : Nat) :
    x.extractLsb' k 8 = BitVec.ofNat 8 (x.toNat / 2 ^ k) :=
  congrArg (BitVec.ofNat 8) (Nat.shiftRight_eq_div_pow x.toNat k)

/-- A 32-bit operand stands in the encoding as its four bytes, the highest first (R82). -/
theorem beBytes_word32_eq_extractLsb' (x : Word32) : beBytes 4 x.toNat =
    [x.extractLsb' 24 8, x.extractLsb' 16 8, x.extractLsb' 8 8, x.extractLsb' 0 8] := by
  simp only [beBytes_word32, extractLsb'_byte_eq_ofNat_div, Nat.div_div_eq_div_mul, Nat.reduceMul, Nat.reducePow,
    Nat.div_one]

end Sys2Proof

namespace Sys2Proof.Machine

/-! #### What each instruction writes -/

section
variable (s : State) (addr : Word)

theorem exec_ldai (imm : Byte) : exec (.ldai imm) s = .next (s.setA imm) := rfl
theorem exec_ldbi (imm : Word) : exec (.ldbi imm) s = .next (s.setB imm) := rfl
theorem exec_ldli (imm : Word) : exec (.ldli imm) s = .next (s.setL imm) := rfl
theorem exec_ldnumi (imm : Word32) : exec (.ldnumi imm) s = .next (s.setNum imm) := rfl
theorem exec_ldam : exec (.ldam addr) s = .next (s.setA (s.mem.read addr)) := rfl

/-- A word is read from memory as an operand is from its encoding: the first byte is the high one (R62, R82). -/
theorem exec_ldbm : exec (.ldbm addr) s = .next (s.setB (beWord (s.mem.read addr) (s.mem.read (addr + 1)))) := rfl
theorem exec_ldlm : exec (.ldlm addr) s = .next (s.setL (beWord (s.mem.read addr) (s.mem.read (addr + 1)))) := rfl

/-- The store of one byte is the write of a sequence of one byte. -/
theorem exec_stam : exec (.stam addr) s = .next (s.setMem (memWriteBytes s.mem addr [s.a])) := rfl
theorem exec_stbm : exec (.stbm addr) s = .next (s.setMem (memWrite s.mem addr 2 s.b.toNat)) := rfl
theorem exec_stlm : exec (.stlm addr) s = .next (s.setMem (memWrite s.mem addr 2 s.l.toNat)) := rfl

end

end Sys2Proof.Machine

namespace Sys2Proof.Claims

open Sys2Proof.Machine

/-- A word is written as its two bytes, the high one first (R63). -/
theorem memWrite_word (m : Memory) (a x : Word) : memWrite m a 2 x.toNat = memWriteBytes m a [hi8 x, lo8 x] := by
  rw [memWrite, beBytes_word_eq_hi8_lo8]

/-- An instruction that writes a sequence of bytes, and nothing but memory, stores it: no sequence of at most 65536
bytes writes an address twice. -/
theorem stores_of_exec_eq {i : Instr} {s : State} {addr : Word} {bs : List Byte} (hbs : bs.length ≤ 65536)
    (h : exec i s = .next (s.setMem (memWriteBytes s.mem addr bs))) : Stores i s addr bs :=
  ⟨memWriteBytes s.mem addr bs, fun x => read_memWriteBytes s.mem addr x bs hbs,
    fun hwf => Memory.wf_memWriteBytes hwf addr bs, h⟩

/-- The two stores of a word differ in the register alone. -/
theorem stores_word_of_exec_eq {i : Instr} {s : State} {addr x : Word}
    (h : exec i s = .next (s.setMem (memWrite s.mem addr 2 x.toNat))) : Stores i s addr [hi8 x, lo8 x] :=
  stores_of_exec_eq (Nat.le_of_ble_eq_true rfl) (memWrite_word s.mem addr x ▸ h)

/-- The encoding line of the instructions whose one operand is a word (format H). -/
theorem encodes_of_encode_eq_word {i : Instr} {op : Byte} {x : Word} (hi : i.wf = true)
    (h : encode i = op :: beBytes 2 x.toNat) : Encodes i [op, hi8 x, lo8 x] :=
  encodes_of_encode_eq hi (h.trans (congrArg _ (beBytes_word_eq_hi8_lo8 x)))

/-- Settles O32: STAM writes the sequence of its one byte, STBM and STLM the two bytes of their word. -/
theorem storesToMemory : Obligations.StoresToMemory := fun s addr =>
  ⟨encodes_of_encode_eq_word rfl rfl, encodes_of_encode_eq_word rfl rfl, encodes_of_encode_eq_word rfl rfl,
    stores_of_exec_eq (Nat.le_of_ble_eq_true rfl) (exec_stam s addr), stores_word_of_exec_eq (exec_stbm s addr),
    stores_word_of_exec_eq (exec_stlm s addr)⟩

/-- Settles O30: the register is given the immediate's pattern, whose signed reading is the integer it stands for. -/
theorem loadImmediates : Obligations.LoadImmediates := by
  refine fun s => ⟨fun imm => ⟨?_, exec_ldai s imm⟩, fun imm => ⟨?_, imm, (sN_toNat imm).symm, exec_ldbi s imm⟩,
    fun imm => ⟨?_, exec_ldli s imm⟩, fun imm => ⟨?_, imm, (sN_toNat imm).symm, exec_ldnumi s imm⟩⟩
  case refine_1 => exact encodes_of_encode_eq rfl rfl
  case refine_2 => exact encodes_of_encode_eq_word rfl rfl
  case refine_3 => exact encodes_of_encode_eq_word rfl rfl
  case refine_4 => exact encodes_of_encode_eq rfl (congrArg _ (beBytes_word32_eq_extractLsb' imm))

/-- Settles O31: LDBM and LDLM load the same word, assembled from its two bytes. -/
theorem loadsFromMemory : Obligations.LoadsFromMemory := fun s addr =>
  ⟨encodes_of_encode_eq_word rfl rfl, encodes_of_encode_eq_word rfl rfl, encodes_of_encode_eq_word rfl rfl,
    exec_ldam s addr, beWord (s.mem.read addr) (s.mem.read (addr + 1)), toNat_beWord _ _, (sN_toNat _).symm,
    exec_ldbm s addr, exec_ldlm s addr⟩

end Sys2Proof.Claims

/-! ### The stack (R170 to R194) -/

namespace Sys2Proof

/-- The fold over the bytes is the sum over their places, byte `i` weighing `256 ^ i`. -/
theorem leNat_eq_sum (bs : List Byte) :
    leNat bs = ∑ i ∈ Finset.range bs.length, (bs.getD i 0).toNat * 256 ^ i := by
  induction bs with
  | nil => rfl
  | cons b bs ih =>
    rw [leNat_cons, ih, List.length_cons, Finset.sum_range_succ', Finset.mul_sum, Nat.add_comm]
    congr 1
    · refine Finset.sum_congr rfl fun i _ => ?_
      rw [List.getD_cons_succ, pow_succ]
      ring
    · simp

theorem ofNat_leNat_singleton (b : Byte) : BitVec.ofNat 8 (leNat [b]) = b := by simp

end Sys2Proof

namespace Sys2Proof.Machine

/-! #### Pushes and pops on each side of their condition (R170 to R175) -/

section
variable {s : State}

theorem pushBytes_of_fits {bs : List Byte} (h : s.stk.length + bs.length ≤ s.cfg.stackCap.val) :
    s.pushBytes bs = s.setStk (s.stk ++ bs) :=
  congrArg s.stkOrFlag (stkPushBytes_of_fits h)

theorem pushBytes_of_full {bs : List Byte} (h : s.cfg.stackCap.val < s.stk.length + bs.length) :
    s.pushBytes bs = s.setFlag true :=
  congrArg s.stkOrFlag (stkPushBytes_of_full h)

theorem pushVal_of_fits {n : Nat} (v : Nat) (h : s.stk.length + n ≤ s.cfg.stackCap.val) :
    s.pushVal n v = s.setStk (s.stk ++ leBytes n v) :=
  pushBytes_of_fits (by rwa [length_leBytes])

theorem pushVal_of_full {n : Nat} (v : Nat) (h : s.cfg.stackCap.val < s.stk.length + n) :
    s.pushVal n v = s.setFlag true :=
  pushBytes_of_full (by rwa [length_leBytes])

theorem popVal_of_short {n : Nat} (use : State → Nat → State) (h : s.stk.length < n) :
    s.popVal n use = s.setFlag true := by
  rw [State.popVal, stkPopVal_of_short h]
  rfl

/-- A pop that leaves `rest` goes on with the value of the bytes above it (R172). -/
theorem popVal_of_stk_eq_append {rest top : List Byte} (use : State → Nat → State) (h : s.stk = rest ++ top) :
    s.popVal top.length use = use (s.setStk rest) (leNat top) := by
  rw [State.popVal, h, stkPopVal_append]

/-- R171: a pop returns what was pushed, and goes on from the state before the push. -/
theorem popVal_pushVal {n v : Nat} (use : State → Nat → State) (hfits : s.stk.length + n ≤ s.cfg.stackCap.val)
    (hv : v < 256 ^ n) : (s.pushVal n v).popVal n use = use s v := by
  have hpop := popVal_of_stk_eq_append use (setStk_stk s (s.stk ++ leBytes n v))
  rw [length_leBytes, leNat_leBytes, Nat.mod_eq_of_lt hv] at hpop
  rw [pushVal_of_fits v hfits, hpop]
  rfl

end

/-! #### What each instruction pushes and pops -/

section
variable (s : State)

theorem exec_pushi (imm : Byte) : exec (.pushi imm) s = .next (s.pushVal 1 imm.toNat) := rfl
theorem exec_pushw (imm : Word) : exec (.pushw imm) s = .next (s.pushVal 2 imm.toNat) := rfl
theorem exec_pushm (addr : Word) : exec (.pushm addr) s = .next (s.pushVal 1 (s.mem.read addr).toNat) := rfl
theorem exec_pusha : exec .pusha s = .next (s.pushVal 1 s.a.toNat) := rfl
theorem exec_pushb : exec .pushb s = .next (s.pushVal 2 s.b.toNat) := rfl
theorem exec_pushl : exec .pushl s = .next (s.pushVal 2 s.l.toNat) := rfl
theorem exec_pushf : exec .pushf s = .next (s.pushVal 8 s.f.toNat) := rfl
theorem exec_pushch : exec .pushch s = .next (s.pushVal 4 s.ch.toNat) := rfl
theorem exec_pushnum : exec .pushnum s = .next (s.pushVal 4 s.num.toNat) := rfl
theorem exec_pushcnt : exec .pushcnt s = .next (s.pushVal 8 s.cnt.toNat) := rfl
theorem exec_pushs : exec .pushs s = .next (s.pushBytes s.str) := rfl

theorem exec_popa : exec .popa s = .next (s.popVal 1 fun t v => t.setA (BitVec.ofNat 8 v)) := rfl
theorem exec_popb : exec .popb s = .next (s.popVal 2 fun t v => t.setB (BitVec.ofNat 16 v)) := rfl
theorem exec_popl : exec .popl s = .next (s.popVal 2 fun t v => t.setL (BitVec.ofNat 16 v)) := rfl
theorem exec_popf : exec .popf s = .next (s.popVal 8 fun t v => t.setF (BitVec.ofNat 64 v)) := rfl
theorem exec_popnum : exec .popnum s = .next (s.popVal 4 fun t v => t.setNum (BitVec.ofNat 32 v)) := rfl
theorem exec_popm (addr : Word) :
    exec (.popm addr) s = .next (s.popVal 1 fun t v => t.setMem (t.mem.write addr (BitVec.ofNat 8 v))) := rfl

/-- The refusal of POPCH is from the state before the pop, so nothing is popped. -/
theorem exec_popch : exec .popch s = .next (s.popVal 4 fun t v =>
    if isScalar (BitVec.ofNat 32 v) then t.setCh (BitVec.ofNat 32 v) else s.setFlag true) := rfl

/-- SALLOC is the push of zero bytes (R173). -/
theorem exec_salloc (n : Word) : exec (.salloc n) s = .next (s.pushBytes (List.replicate n.toNat 0)) :=
  congrArg (fun stk => Host.Outcome.next (s.stkOrFlag stk)) (stkAlloc_eq s.cfg.stackCap.val s.stk n.toNat)

theorem exec_sdealloc (n : Word) : exec (.sdealloc n) s = .next (s.stkOrFlag (stkDealloc s.stk n.toNat)) := rfl

end

end Sys2Proof.Machine

namespace Sys2Proof.Claims

open Sys2Proof.Machine

/-! #### The order of the bytes (R171, R172) -/

theorem leBytes_eq_lsbFirst (n v : Nat) : leBytes n v = lsbFirst n v := by
  refine List.ext_getElem? fun i => ?_
  rcases Nat.lt_or_ge i n with hi | hi
  · rw [getElem?_leBytes n v i hi]
    simp [lsbFirst, hi]
  · simp [lsbFirst, hi]

/-- The sum of R172 runs from the top byte down, the fold from the lowest byte up. -/
theorem leNat_drop_eq_topValue {stk : List Byte} {n : Nat} (h : n ≤ stk.length) :
    leNat (stk.drop (stk.length - n)) = topValue stk n := by
  rw [leNat_eq_sum, List.length_drop, Nat.sub_sub_self h, topValue, ← Finset.sum_range_reflect]
  refine Finset.sum_congr rfl fun i hi => ?_
  have hplace : stk.length - n + (n - 1 - i) = stk.length - 1 - i := by
    have := Finset.mem_range.mp hi
    omega
  rw [List.getD_eq_getElem?_getD, List.getElem?_drop, hplace, ← List.getD_eq_getElem?_getD]

theorem topValue_lt {stk : List Byte} {n : Nat} (h : n ≤ stk.length) : topValue stk n < 256 ^ n := by
  have hlt := leNat_lt (stk.drop (stk.length - n))
  rwa [List.length_drop, Nat.sub_sub_self h, leNat_drop_eq_topValue h] at hlt

theorem popVal_of_enough {s : State} {n : Nat} (use : State → Nat → State) (h : n ≤ s.stk.length) :
    s.popVal n use = use (s.setStk (s.stk.take (s.stk.length - n))) (topValue s.stk n) := by
  rw [State.popVal, stkPopVal_of_enough h, leNat_drop_eq_topValue h]

/-! #### From what an instruction runs to what its rule says -/

theorem pushes_of_exec_eq {i : Instr} {s : State} {n v : Nat} (h : exec i s = .next (s.pushVal n v)) :
    Pushes i s n v := by
  rw [Pushes, Runs, h, ← leBytes_eq_lsbFirst]
  split_ifs with hfits
  · exact congrArg _ (pushVal_of_fits v hfits)
  · exact congrArg _ (pushVal_of_full v (not_le.mp hfits))

theorem pops_of_exec_eq {i : Instr} {s : State} {n : Nat} {use : State → Nat → State}
    (h : exec i s = .next (s.popVal n use)) : Pops i s n use := by
  rw [Pops, Runs, h]
  split_ifs with hshort
  · exact congrArg _ (popVal_of_short use hshort)
  · exact congrArg _ (popVal_of_enough use (not_lt.mp hshort))

/-- The pop after a push that fits goes on with the value pushed, from the state before the push. -/
theorem exists_runs_push_pop {push pop : Instr} {s : State} {n v : Nat} {use : State → Nat → State}
    (hpush : exec push s = .next (s.pushVal n v))
    (hpop : exec pop (s.pushVal n v) = .next ((s.pushVal n v).popVal n use))
    (hfits : s.stk.length + n ≤ s.cfg.stackCap.val) (hv : v < 256 ^ n) :
    ∃ t, Runs push s t ∧ Runs pop t (use s v) :=
  ⟨s.pushVal n v, hpush, hpop.trans (congrArg _ (popVal_pushVal use hfits hv))⟩

/-- A pattern pushed is the pattern popped, into whichever register `write` writes. -/
theorem exists_runs_push_pop_pattern {push pop : Instr} {s : State} {n k : Nat} {x : BitVec k}
    (write : State → BitVec k → State) (hpush : exec push s = .next (s.pushVal n x.toNat))
    (hpop : ∀ t, exec pop t = .next (t.popVal n fun u v => write u (BitVec.ofNat k v)))
    (hfits : s.stk.length + n ≤ s.cfg.stackCap.val) (hk : 2 ^ k = 256 ^ n) :
    ∃ t, Runs push s t ∧ Runs pop t (write s x) := by
  have hrun := exists_runs_push_pop hpush (hpop _) hfits (hk ▸ x.isLt)
  rwa [BitVec.ofNat_toNat, BitVec.setWidth_eq] at hrun

/-- The test of POPCH is R7's test of the number popped: four bytes fit in CH. -/
theorem isScalar_ofNat_topValue {stk : List Byte} (h : 4 ≤ stk.length) :
    isScalar (BitVec.ofNat 32 (topValue stk 4)) = true ↔
      topValue stk 4 ≤ 0xD7FF ∨ (0xE000 ≤ topValue stk 4 ∧ topValue stk 4 ≤ 0x10FFFF) := by
  have hlt : topValue stk 4 < 2 ^ 32 := topValue_lt h
  rw [isScalar_iff, BitVec.toNat_ofNat, Nat.mod_eq_of_lt hlt]

/-! #### The claims -/

/-- Settles O33: each of the ten is a push of its value, and the model's list of bytes is R171's. -/
theorem pushesLeastSignificantFirst : Obligations.PushesLeastSignificantFirst :=
  ⟨fun _ => encodes_of_encode_eq rfl rfl, fun _ => encodes_of_encode_eq_word rfl rfl,
    fun _ => encodes_of_encode_eq_word rfl rfl, encodes_of_encode_eq rfl rfl, encodes_of_encode_eq rfl rfl,
    encodes_of_encode_eq rfl rfl, encodes_of_encode_eq rfl rfl, encodes_of_encode_eq rfl rfl,
    encodes_of_encode_eq rfl rfl, encodes_of_encode_eq rfl rfl, fun s =>
    ⟨fun imm => pushes_of_exec_eq (exec_pushi s imm), fun imm => pushes_of_exec_eq (exec_pushw s imm),
      fun addr => pushes_of_exec_eq (exec_pushm s addr), pushes_of_exec_eq (exec_pusha s),
      pushes_of_exec_eq (exec_pushb s), pushes_of_exec_eq (exec_pushl s), pushes_of_exec_eq (exec_pushf s),
      pushes_of_exec_eq (exec_pushch s), pushes_of_exec_eq (exec_pushnum s), pushes_of_exec_eq (exec_pushcnt s)⟩⟩

/-- Settles O34: each of the five is a pop into its register, and the value popped is the sum of R172. -/
theorem popsMostSignificantOnTop : Obligations.PopsMostSignificantOnTop :=
  ⟨encodes_of_encode_eq rfl rfl, encodes_of_encode_eq rfl rfl, encodes_of_encode_eq rfl rfl,
    encodes_of_encode_eq rfl rfl, encodes_of_encode_eq rfl rfl, fun _ _ => topValue_lt, fun s =>
    ⟨pops_of_exec_eq (exec_popa s), pops_of_exec_eq (exec_popb s), pops_of_exec_eq (exec_popl s),
      pops_of_exec_eq (exec_popf s), pops_of_exec_eq (exec_popnum s)⟩⟩

/-- Settles O35: an empty stack is short of a byte, and a stack with a byte on top has it written by one write. -/
theorem popToMemory : Obligations.PopToMemory := by
  refine fun s addr => ⟨encodes_of_encode_eq_word rfl rfl, fun hempty => ?_, fun rest v hstk =>
    ⟨s.mem.write addr v, fun x => Memory.read_write s.mem addr x v, fun hwf => Memory.wf_write hwf addr v, ?_⟩⟩
  · rw [Runs, exec_popm, popVal_of_short _ (by simp [hempty])]
    rfl
  · have hpop := popVal_of_stk_eq_append (fun t v => t.setMem (t.mem.write addr (BitVec.ofNat 8 v))) hstk
    rw [ofNat_leNat_singleton] at hpop
    exact (exec_popm s addr).trans (congrArg _ hpop)

/-- Settles O36: POPCH is a pop whose value is tested before anything is written. -/
theorem popCharChecksScalar : Obligations.PopCharChecksScalar := by
  refine ⟨encodes_of_encode_eq rfl rfl, ?_⟩
  rintro s v rfl
  simp only [Runs, exec_popch]
  refine ⟨fun hshort => congrArg _ (popVal_of_short _ hshort), fun henough hscalar => ?_, fun henough hscalar => ?_⟩
  · rw [popVal_of_enough _ henough, if_neg (mt (isScalar_ofNat_topValue henough).mp hscalar)]
    rfl
  · rw [popVal_of_enough _ henough, if_pos ((isScalar_ofNat_topValue henough).mpr hscalar)]
    rfl

/-- Settles O38: a pop after a push writes what was read, and writing a register's own value changes nothing. -/
theorem pushThenPopRestores : Obligations.PushThenPopRestores := by
  refine fun s => ⟨fun hfits => ?_, fun hfits => ⟨?_, ?_, ?_⟩, fun hfits => ⟨?_, fun hscalar => ?_⟩, fun hfits => ?_⟩
  · exact exists_runs_push_pop_pattern State.setA (exec_pusha s) exec_popa hfits rfl
  · exact exists_runs_push_pop_pattern State.setB (exec_pushb s) exec_popb hfits rfl
  · exact exists_runs_push_pop_pattern State.setL (exec_pushl s) exec_popl hfits rfl
  · exact exists_runs_push_pop_pattern State.setL (exec_pushb s) exec_popl hfits rfl
  · exact exists_runs_push_pop_pattern State.setNum (exec_pushnum s) exec_popnum hfits rfl
  · have hrun := exists_runs_push_pop (exec_pushch s) (exec_popch _) hfits s.ch.isLt
    rwa [BitVec.ofNat_toNat, BitVec.setWidth_eq, if_pos hscalar] at hrun
  · exact exists_runs_push_pop_pattern State.setF (exec_pushf s) exec_popf hfits rfl

/-- Settles O37: SALLOC and PUSHS are pushes of a sequence of bytes; SDEALLOC is the stack component's. -/
theorem stackSpaceAllOrNothing : Obligations.StackSpaceAllOrNothing := by
  refine ⟨fun _ => ⟨encodes_of_encode_eq_word rfl rfl, encodes_of_encode_eq_word rfl rfl⟩,
    encodes_of_encode_eq rfl rfl, fun s n => ?_⟩
  simp only [Runs, exec_salloc, exec_sdealloc, exec_pushs]
  refine ⟨fun hfits => congrArg _ (pushBytes_of_fits ?_), fun hfull => congrArg _ (pushBytes_of_full ?_),
    fun henough => ?_, fun hshort => ?_, fun hfits => congrArg _ (pushBytes_of_fits hfits),
    fun hfull => congrArg _ (pushBytes_of_full hfull)⟩
  · rwa [List.length_replicate]
  · rwa [List.length_replicate]
  · rw [stkDealloc_of_enough henough]
    rfl
  · rw [stkDealloc_of_short hshort]
    rfl

end Sys2Proof.Claims

/-! ### The jumps (R200 to R207) -/

namespace Sys2Proof.Machine

section
variable (s : State)

theorem popEpIf_false : s.popEpIf false = s := rfl

theorem popEpIf_true : s.popEpIf true = s.popVal 2 fun t v => t.setEp (BitVec.ofNat 16 v) := rfl

/-! #### Each jump is `PopEpIf` of its condition -/

theorem exec_pep : exec .pep s = .next (s.popEpIf true) := rfl
theorem exec_pepz : exec .pepz s = .next (s.popEpIf (decide (s.b.toInt = 0))) := rfl
theorem exec_pepp : exec .pepp s = .next (s.popEpIf (decide (0 < s.b.toInt))) := rfl
theorem exec_pepn : exec .pepn s = .next (s.popEpIf (decide (s.b.toInt < 0))) := rfl
theorem exec_pepf : exec .pepf s = .next (s.popEpIf s.flag) := rfl
theorem exec_pepaz : exec .pepaz s = .next (s.popEpIf (s.a == 0)) := rfl
theorem exec_pepd : exec .pepd s = .next (s.popEpIf s.dbg) := rfl

end

end Sys2Proof.Machine

namespace Sys2Proof.Claims

open Sys2Proof.Machine

/-- A false condition leaves the state alone; under a true one the jump is a pop of two bytes into EP (R200). -/
theorem jumpsIf_of_exec_eq {i : Instr} {s : State} {c : Bool} {cond : Prop}
    (h : exec i s = .next (s.popEpIf c)) (hc : c = true ↔ cond) : JumpsIf i s cond := by
  cases c with
  | false => exact ⟨fun _ => h.trans (congrArg _ (popEpIf_false s)), fun hcond => absurd (hc.mpr hcond) (by decide)⟩
  | true =>
    exact ⟨fun hncond => absurd (hc.mp rfl) hncond,
      fun _ => pops_of_exec_eq (h.trans (congrArg _ (popEpIf_true s)))⟩

/-- PEPAZ compares patterns, R206 the number in A. -/
theorem beq_zero_iff_toNat_eq_zero (x : Byte) : (x == 0) = true ↔ x.toNat = 0 :=
  beq_iff_eq.trans BitVec.toNat_eq

/-- Settles O39: each of the seven is `PopEpIf` of a test that holds exactly when its rule's condition does. -/
theorem jumpsPopTheirTarget : Obligations.JumpsPopTheirTarget :=
  ⟨encodes_of_encode_eq rfl rfl, encodes_of_encode_eq rfl rfl, encodes_of_encode_eq rfl rfl,
    encodes_of_encode_eq rfl rfl, encodes_of_encode_eq rfl rfl, encodes_of_encode_eq rfl rfl,
    encodes_of_encode_eq rfl rfl, fun s =>
    ⟨jumpsIf_of_exec_eq (exec_pep s) (by decide), jumpsIf_of_exec_eq (exec_pepz s) decide_eq_true_iff,
      jumpsIf_of_exec_eq (exec_pepp s) decide_eq_true_iff, jumpsIf_of_exec_eq (exec_pepn s) decide_eq_true_iff,
      jumpsIf_of_exec_eq (exec_pepf s) Iff.rfl, jumpsIf_of_exec_eq (exec_pepaz s) (beq_zero_iff_toNat_eq_zero s.a),
      jumpsIf_of_exec_eq (exec_pepd s) Iff.rfl⟩⟩

end Sys2Proof.Claims

/-! ### The array register (R215 to R223) -/

namespace Sys2Proof

/-- A stretch of a list that lies inside it, entry by entry. -/
theorem take_drop_eq_map_getD {l : List Byte} {i n : Nat} (h : i + n ≤ l.length) :
    (l.drop i).take n = (List.range n).map fun k => l.getD (i + k) 0 := by
  refine List.ext_getElem (by simp; omega) fun k hk _ => ?_
  have hplace : i + k < l.length := by
    simp only [List.length_take, List.length_drop] at hk
    omega
  simp [hplace]

end Sys2Proof

namespace Sys2Proof.Machine

section
variable (s : State)

/-! #### What each instruction writes -/

theorem exec_rclr : exec .rclr s = .next (s.setR (List.replicate 37 0)) := rfl
theorem exec_rldi (v : List Byte) : exec (.rldi v) s = .next (s.setR v) := rfl
theorem exec_rldm (addr : Word) : exec (.rldm addr) s = .next (s.setR (memBytes s.mem addr 37)) := rfl
theorem exec_rstm (addr : Word) : exec (.rstm addr) s = .next (s.setMem (memWriteBytes s.mem addr s.r)) := rfl
theorem exec_rset (idx : Byte) : exec (.rset idx) s = .next (s.setSlot idx s.a) := rfl
theorem exec_rseti (idx imm : Byte) : exec (.rseti idx imm) s = .next (s.setSlot idx imm) := rfl

end

section
variable {s : State}

/-! #### Each side of an index condition (R215) -/

theorem setSlot_of_lt {idx : Byte} (v : Byte) (h : idx.toNat < slotCount) :
    s.setSlot idx v = s.setR (s.r.set idx.toNat v) :=
  ((setSlot_cases s idx v).resolve_right fun hle => hle.1.not_gt h).2

theorem setSlot_of_le {idx : Byte} (v : Byte) (h : slotCount ≤ idx.toNat) : s.setSlot idx v = s.setFlag true :=
  ((setSlot_cases s idx v).resolve_left fun hlt => h.not_gt hlt.1).2

theorem exec_rget_of_lt {idx : Byte} (h : idx.toNat < slotCount) :
    exec (.rget idx) s = .next (s.setA (s.r.getD idx.toNat 0)) :=
  congrArg Host.Outcome.next (if_pos h)

theorem exec_rget_of_le {idx : Byte} (h : slotCount ≤ idx.toNat) : exec (.rget idx) s = .next (s.setFlag true) :=
  congrArg Host.Outcome.next (if_neg h.not_gt)

/-- R223: the sum is that of the numbers, so it does not wrap at 256. -/
theorem exec_rcpm_of_lt {idx cnt : Byte} (addr : Word) (h : slotCount < idx.toNat + cnt.toNat) :
    exec (.rcpm idx cnt addr) s = .next (s.setFlag true) :=
  congrArg Host.Outcome.next (if_pos h)

theorem exec_rcpm_of_le {idx cnt : Byte} (addr : Word) (h : idx.toNat + cnt.toNat ≤ slotCount) :
    exec (.rcpm idx cnt addr) s =
      .next (s.setMem (memWriteBytes s.mem addr ((s.r.drop idx.toNat).take cnt.toNat))) :=
  congrArg Host.Outcome.next (if_neg h.not_gt)

end

end Sys2Proof.Machine

namespace Sys2Proof.Claims

open Sys2Proof.Machine

/-- Slot `i` after a load from memory is the signed reading of its own byte, at its wrapped address (R218). -/
theorem toInt_getD_memBytes (m : Memory) (addr : Word) {n i : Nat} (h : i < n) :
    ((memBytes m addr n).getD i 0).toInt = sN 8 (m.read (addr + BitVec.ofNat 16 i)).toNat := by
  rw [sN_toNat, List.getD_eq_getElem?_getD, getElem?_memBytes, if_pos h, Option.getD_some]

/-- Settles O40: the bytes of the operand, or of memory, are themselves the slots' patterns, and RSTM writes them as one
sequence of 37 bytes. -/
theorem arrayBulkTransfers : Obligations.ArrayBulkTransfers := by
  refine ⟨encodes_of_encode_eq rfl rfl, fun v hv => encodes_of_encode_eq (beq_iff_eq.mpr hv) rfl,
    fun _ => ⟨encodes_of_encode_eq_word rfl rfl, encodes_of_encode_eq_word rfl rfl⟩, fun s =>
    ⟨exec_rclr s, fun v hv => ⟨v, hv, fun _ _ => (sN_toNat _).symm, exec_rldi s v⟩, fun addr => ?_,
      fun addr hslots => stores_of_exec_eq (hslots.le.trans (by decide)) (exec_rstm s addr)⟩⟩
  exact ⟨memBytes s.mem addr 37, length_memBytes _ _ _, fun _ hi => toInt_getD_memBytes _ _ hi, exec_rldm s addr⟩

/-- Settles O41: slot 36 is the last below the slot count, and a range that passes R223's test is a stretch inside the
37 slots. -/
theorem arraySlotAccess : Obligations.ArraySlotAccess := by
  refine ⟨fun _ => ⟨encodes_of_encode_eq rfl rfl, encodes_of_encode_eq rfl rfl⟩,
    fun _ _ => encodes_of_encode_eq rfl rfl, fun idx cnt addr => ?_, fun s idx =>
    ⟨fun hidx => ?inside, fun hidx => ?beyond, fun cnt addr =>
      ⟨fun hlong => exec_rcpm_of_lt addr hlong, fun hfits hslots => ?range⟩⟩⟩
  · exact encodes_of_encode_eq rfl (congrArg (fun bs => 0x3B :: idx :: cnt :: bs) (beBytes_word_eq_hi8_lo8 addr))
  case inside =>
    have hlt : idx.toNat < slotCount := Nat.lt_succ_of_le hidx
    exact ⟨exec_rget_of_lt hlt, (exec_rset s idx).trans (congrArg _ (setSlot_of_lt s.a hlt)),
      fun imm => (exec_rseti s idx imm).trans (congrArg _ (setSlot_of_lt imm hlt))⟩
  case beyond =>
    exact ⟨exec_rget_of_le hidx, (exec_rset s idx).trans (congrArg _ (setSlot_of_le s.a hidx)),
      fun imm => (exec_rseti s idx imm).trans (congrArg _ (setSlot_of_le imm hidx))⟩
  case range =>
    rw [← take_drop_eq_map_getD (hfits.trans hslots.ge)]
    refine stores_of_exec_eq ?_ (exec_rcpm_of_le addr hfits)
    calc ((s.r.drop idx.toNat).take cnt.toNat).length ≤ cnt.toNat := List.length_take_le _ _
      _ ≤ 65536 := by omega

end Sys2Proof.Claims

/-! ### The string register (R230 to R238) -/

namespace Sys2Proof

/-- With a zero byte put behind it, every sequence is its part before the first zero byte, then a zero byte. -/
theorem exists_append_zero_eq_takeWhile_append (bs : List Byte) :
    ∃ rest, bs ++ [0] = bs.takeWhile (· ≠ 0) ++ 0 :: rest := by
  induction bs with
  | nil => exact ⟨[], rfl⟩
  | cons b bs ih =>
    by_cases hb : b = 0
    · exact ⟨bs ++ [0], by simp [hb]⟩
    · obtain ⟨rest, hrest⟩ := ih
      exact ⟨rest, by rw [List.takeWhile_cons_of_pos (by simpa using hb), List.cons_append, hrest, List.cons_append]⟩

end Sys2Proof

namespace Sys2Proof.Machine

section
variable (s : State) (addr : Word)

/-! #### What each instruction writes -/

theorem exec_sclr : exec .sclr s = .next (s.setStr []) := rfl
theorem exec_slen : exec .slen s = .next (s.setA (BitVec.ofNat 8 s.str.length)) := rfl
theorem exec_sldm : exec (.sldm addr) s =
    .next (s.strOrFlag ((firstZero s.mem addr (s.cfg.strCap.val + 1)).map (memBytes s.mem addr))) := rfl
theorem exec_sstm : exec (.sstm addr) s = .next (s.setMem (memWriteBytes s.mem addr (s.str ++ [0]))) := rfl
theorem exec_sapp : exec .sapp s = .next (s.strOrFlag (strAppend s.cfg.strCap.val s.str [s.a])) := rfl
theorem exec_sappm (n : Byte) : exec (.sappm addr n) s =
    .next (s.strOrFlag (strAppend s.cfg.strCap.val s.str (memBytes s.mem addr n.toNat))) := rfl

end

section
variable {s : State}

/-! #### Each side of a capacity or index condition (R230) -/

theorem strOrFlag_strAppend_of_fits {bs : List Byte} (h : s.str.length + bs.length ≤ s.cfg.strCap.val) :
    s.strOrFlag (strAppend s.cfg.strCap.val s.str bs) = s.setStr (s.str ++ bs) :=
  congrArg s.strOrFlag ((strAppend_cases _ _ _).resolve_right fun hfull => hfull.1.not_ge h).2

theorem strOrFlag_strAppend_of_full {bs : List Byte} (h : s.cfg.strCap.val < s.str.length + bs.length) :
    s.strOrFlag (strAppend s.cfg.strCap.val s.str bs) = s.setFlag true :=
  congrArg s.strOrFlag ((strAppend_cases _ _ _).resolve_left fun hfits => hfits.1.not_gt h).2

theorem exec_sget_of_lt {idx : Byte} (h : idx.toNat < s.str.length) :
    exec (.sget idx) s = .next (s.setA (s.str.getD idx.toNat 0)) := by
  rw [exec, execSget, List.getD_eq_getElem?_getD, List.getElem?_eq_getElem h, Option.getD_some]

theorem exec_sget_of_le {idx : Byte} (h : s.str.length ≤ idx.toNat) : exec (.sget idx) s = .next (s.setFlag true) := by
  rw [exec, execSget, List.getElem?_eq_none h, raiseFlag_eq]

theorem exec_sset_of_lt {idx : Byte} (h : idx.toNat < s.str.length) :
    exec (.sset idx) s = .next (s.setStr (s.str.set idx.toNat s.a)) :=
  congrArg Host.Outcome.next (if_pos h)

theorem exec_sset_of_le {idx : Byte} (h : s.str.length ≤ idx.toNat) : exec (.sset idx) s = .next (s.setFlag true) :=
  congrArg Host.Outcome.next (if_neg h.not_gt)

/-! #### The zero-terminated string in memory (R232) -/

theorem exec_sldm_of_least_zero {addr : Word} {n : Nat} (hn : n ≤ s.cfg.strCap.val)
    (hzero : s.mem.read (addr + BitVec.ofNat 16 n) = 0)
    (hbefore : ∀ k < n, s.mem.read (addr + BitVec.ofNat 16 k) ≠ 0) :
    exec (.sldm addr) s = .next (s.setStr (memBytes s.mem addr n)) := by
  have hscan : firstZero s.mem addr (s.cfg.strCap.val + 1) = some n :=
    (firstZero_eq_some_iff _ _ _ _).mpr ⟨Nat.lt_succ_of_le hn, hzero, hbefore⟩
  rw [exec_sldm, hscan, Option.map_some, strOrFlag_some]

theorem exec_sldm_of_no_zero {addr : Word}
    (h : ∀ n ≤ s.cfg.strCap.val, s.mem.read (addr + BitVec.ofNat 16 n) ≠ 0) :
    exec (.sldm addr) s = .next (s.setFlag true) := by
  have hscan : firstZero s.mem addr (s.cfg.strCap.val + 1) = none :=
    (firstZero_eq_none_iff _ _ _).mpr fun n hn => h n (Nat.le_of_lt_succ hn)
  rw [exec_sldm, hscan, Option.map_none, strOrFlag_none]

/-- SLDM loads the sequence `v` without a zero byte where `v` stands in memory with a zero byte behind it, whatever
follows. -/
theorem exec_sldm_of_memBytes_eq {addr : Word} {n : Nat} {v rest : List Byte}
    (hmem : memBytes s.mem addr n = v ++ 0 :: rest) (hv : ∀ b ∈ v, b ≠ 0) (hfits : v.length ≤ s.cfg.strCap.val) :
    exec (.sldm addr) s = .next (s.setStr v) := by
  have hlen : v.length < n := by
    have := congrArg List.length hmem
    simp only [length_memBytes, List.length_append, List.length_cons] at this
    omega
  have hread : ∀ k ≤ v.length, (v ++ 0 :: rest)[k]? = some (s.mem.read (addr + BitVec.ofNat 16 k)) := fun k hk => by
    rw [← hmem, getElem?_memBytes, if_pos (hk.trans_lt hlen)]
  have hzero : s.mem.read (addr + BitVec.ofNat 16 v.length) = 0 := by
    simpa [eq_comm] using hread v.length le_rfl
  have hbefore : ∀ k < v.length, s.mem.read (addr + BitVec.ofNat 16 k) ≠ 0 := fun k hk => by
    have hk' := hread k hk.le
    rw [List.getElem?_append_left hk] at hk'
    exact hv _ (List.mem_of_getElem? hk')
  rw [exec_sldm_of_least_zero hfits hzero hbefore, ← take_memBytes s.mem addr hlen.le, hmem, List.take_left]

end

end Sys2Proof.Machine

namespace Sys2Proof.Claims

open Sys2Proof.Machine

/-- Settles O44: what SSTM wrote is read back, and SLDM loads of it what stands before the first zero byte, be that one of
S or the one SSTM put behind it. -/
theorem stringRoundTrip : Obligations.StringRoundTrip := by
  intro s t addr hfits hstore
  obtain rfl : s.setMem (memWriteBytes s.mem addr (s.str ++ [0])) = t :=
    Host.Outcome.next.inj ((exec_sstm s addr).symm.trans hstore)
  obtain ⟨rest, hrest⟩ := exists_append_zero_eq_takeWhile_append s.str
  have hlen : (s.str ++ [0]).length ≤ 65536 := by
    have := s.cfg.strCap.isLt
    simp only [List.length_append, List.length_singleton]
    omega
  have hback := (memBytes_memWriteBytes s.mem addr (s.str ++ [0]) hlen).trans hrest
  have hnonzero : ∀ b ∈ s.str.takeWhile (· ≠ 0), b ≠ 0 := fun b hb => by simpa using List.mem_takeWhile_imp hb
  exact exec_sldm_of_memBytes_eq hback hnonzero ((List.takeWhile_sublist _).length_le.trans hfits)

theorem memBytes_eq_bytesAt (m : Memory) (a : Word) (n : Nat) : memBytes m a n = bytesAt m a n := memBytes_eq_map m a n

/-- Settles O42: the two appends are `StrAppend` of their own bytes, a valid index is one below `|S|`, and a length of at
most 255 is its own number in a byte. -/
theorem stringRegisterAccess : Obligations.StringRegisterAccess := by
  refine ⟨encodes_of_encode_eq rfl rfl, encodes_of_encode_eq rfl rfl, fun addr n => ?_,
    fun _ => ⟨encodes_of_encode_eq rfl rfl, encodes_of_encode_eq rfl rfl⟩, encodes_of_encode_eq rfl rfl, fun s =>
    ⟨exec_sclr s, fun hfits => ?append, fun hfull => ?refuse, fun addr n =>
        ⟨fun hfits => ?appendMem, fun hfull => ?refuseMem⟩,
      fun _ => ⟨fun hidx => ⟨exec_sget_of_lt hidx, exec_sset_of_lt hidx⟩,
        fun hidx => ⟨exec_sget_of_le hidx, exec_sset_of_le hidx⟩⟩,
      fun hlen => ⟨_, ?length, exec_slen s⟩⟩⟩
  · exact encodes_of_encode_eq rfl (congrArg (fun bs => 0x40 :: (bs ++ [n])) (beBytes_word_eq_hi8_lo8 addr))
  case append => exact (exec_sapp s).trans (congrArg _ (strOrFlag_strAppend_of_fits hfits))
  case refuse => exact (exec_sapp s).trans (congrArg _ (strOrFlag_strAppend_of_full hfull))
  case appendMem =>
    rw [← memBytes_eq_bytesAt]
    exact (exec_sappm s addr n).trans (congrArg _ (strOrFlag_strAppend_of_fits (by rwa [length_memBytes])))
  case refuseMem =>
    exact (exec_sappm s addr n).trans (congrArg _ (strOrFlag_strAppend_of_full (by rwa [length_memBytes])))
  case length => rw [BitVec.toNat_ofNat, Nat.mod_eq_of_lt (Nat.lt_succ_of_le hlen)]

/-- Settles O43: SLDM's scan finds the least zero byte within STR_CAP or none, and SSTM writes S and its zero byte as one
sequence of at most 256 bytes. -/
theorem stringInMemory : Obligations.StringInMemory := by
  refine fun s addr => ⟨encodes_of_encode_eq_word rfl rfl, encodes_of_encode_eq_word rfl rfl,
    fun n hn hzero hbefore => ?load, exec_sldm_of_no_zero, fun hlen => stores_of_exec_eq ?bound (exec_sstm s addr)⟩
  case load => exact memBytes_eq_bytesAt s.mem addr n ▸ exec_sldm_of_least_zero hn hzero hbefore
  case bound =>
    calc (s.str ++ [0]).length = s.str.length + 1 := List.length_append
      _ ≤ 65536 := by omega

end Sys2Proof.Claims

/-! ### The loader and the start of a run (R315, R320 to R324) -/

namespace Sys2Proof.Machine

/-! #### One run of bytes -/

theorem word_add_ofNat_add (a : Word) (i j : Nat) :
    a + BitVec.ofNat 16 i + BitVec.ofNat 16 j = a + BitVec.ofNat 16 (i + j) := by
  rw [BitVec.add_assoc, ← BitVec.ofNat_add]

theorem memWriteBytes_append (m : Memory) (a : Word) (xs ys : List Byte) :
    memWriteBytes m a (xs ++ ys) = memWriteBytes (memWriteBytes m a xs) (a + BitVec.ofNat 16 xs.length) ys := by
  induction xs generalizing m a with
  | nil => simp
  | cons x xs ih => rw [List.cons_append, memWriteBytes_cons, memWriteBytes_cons, ih, word_add_succ, List.length_cons]

theorem drop_memBytes (m : Memory) (a : Word) (k n : Nat) :
    (memBytes m a n).drop k = memBytes m (a + BitVec.ofNat 16 k) (n - k) := by
  refine List.ext_getElem? fun i => ?_
  rw [List.getElem?_drop, getElem?_memBytes, getElem?_memBytes, word_add_ofNat_add]
  exact if_congr (by omega) rfl rfl

/-- A stretch of the bytes read at `a` is what is read at its own address. -/
theorem memBytes_of_memBytes_eq_append {m : Memory} {a : Word} {n : Nat} {pre bs post : List Byte}
    (h : memBytes m a n = pre ++ (bs ++ post)) :
    memBytes m (a + BitVec.ofNat 16 pre.length) bs.length = bs := by
  have hlen : pre.length + (bs.length + post.length) = n := by simpa using (congrArg List.length h).symm
  calc memBytes m (a + BitVec.ofNat 16 pre.length) bs.length
      = (memBytes m (a + BitVec.ofNat 16 pre.length) (n - pre.length)).take bs.length :=
        (take_memBytes m _ (by omega)).symm
    _ = ((memBytes m a n).drop pre.length).take bs.length := by rw [drop_memBytes]
    _ = bs := by rw [h, List.drop_left, List.take_left]

end Sys2Proof.Machine

namespace Sys2Proof.Claims

open Sys2Proof.Machine

/-! #### The loader (R321) -/

/-- Every item is written as its bytes, and the cursor moves past them. -/
theorem loadItem_eq (m : Memory) (cur : Word) {x : LoadItem} (hx : ∀ i, x = .instr i → i.wf = true) :
    loadItem m cur x = (memWriteBytes m cur (itemBytes x), cur + BitVec.ofNat 16 (itemBytes x).length) := by
  cases x with
  | instr i => rw [loadItem, encodeAt, itemBytes, length_encode (hx i rfl)]
  | byte b => rfl
  | block bs => rfl

theorem loadItems_eq (m : Memory) (off : Word) {items : List LoadItem} (hwf : ∀ i, .instr i ∈ items → i.wf = true) :
    loadItems m off items =
      (memWriteBytes m off (items.flatMap itemBytes), off + BitVec.ofNat 16 (items.flatMap itemBytes).length) := by
  induction items generalizing m off with
  | nil => simp [loadItems]
  | cons x rest ih =>
    have hx : ∀ i, x = .instr i → i.wf = true := fun i hi => hwf i (hi ▸ List.mem_cons_self)
    have hrest : ∀ i, .instr i ∈ rest → i.wf = true := fun i hi => hwf i (List.mem_cons_of_mem x hi)
    rw [loadItems, loadItem_eq m off hx, ih _ _ hrest, List.flatMap_cons, memWriteBytes_append, List.length_append,
      word_add_ofNat_add]

/-- A program's instructions are items, whose bytes are the encodings one after another. -/
theorem loadItems_program (m : Memory) (off : Word) {program : List Instr} (hwf : ∀ j ∈ program, j.wf = true) :
    (loadItems m off (program.map .instr)).1 = memWriteBytes m off (program.flatMap encode) := by
  rw [loadItems_eq m off (by simpa using hwf), List.flatMap_map]
  rfl

theorem length_flatMap_encode {program : List Instr} (hwf : ∀ j ∈ program, j.wf = true) :
    (program.flatMap encode).length = (program.map Instr.length).sum := by
  rw [List.length_flatMap]
  exact congrArg List.sum (List.map_congr_left fun j hj => length_encode (hwf j hj))

/-- Settles O23: the bytes of a program that does not wrap onto itself are read back whole, so each encoding stands
where the lengths before it put it, and decodes there. -/
theorem loaderWritesItems : Obligations.LoaderWritesItems := by
  refine ⟨?run, fun m off before after i hwf hfits => ?decode⟩
  case run =>
    rintro m off items hwf _ rfl
    exact loadItems_eq m off hwf
  case decode =>
    have hbefore : ∀ j ∈ before, j.wf = true := fun j hj => hwf j (List.mem_append_left _ hj)
    have hi : i.wf = true := hwf i (by simp)
    have hback := memBytes_memWriteBytes m off _ ((length_flatMap_encode hwf).trans_le hfits)
    rw [← loadItems_program m off hwf, List.flatMap_append, List.flatMap_cons] at hback
    have hbytes := memBytes_of_memBytes_eq_append hback
    rw [length_flatMap_encode hbefore, length_encode hi] at hbytes
    exact decodeAt_eq_ok_iff.mpr ⟨hi, rfl, hbytes⟩

/-! #### The start of a run -/

/-- An image is loaded into a machine whose other elements are zeroed, so of the invariant only the canonical form of
memory asks anything of it. -/
theorem boot_inv (p : Params) {image : Memory} (h : image.wf) : (State.boot p image).Inv where
  memWf := h
  slots := List.length_replicate
  strFits := Nat.zero_le _
  stkFits := Nat.zero_le _
  chScalar := rfl
  dpLegal := .inl rfl
  haltedDoomed hhalted := nomatch (show false = true from hhalted)
  exclusive _ := rfl
  faultAtEp _ hfault := nomatch (show none = some _ from hfault)
  keysScalar _ hkey := nomatch (show _ ∈ [] from hkey)

/-- Settles O14: reset is the start of a run with the empty image, which is canonical. -/
theorem resetMeetsInvariant : Obligations.ResetMeetsInvariant := by
  refine ⟨?_, fun p _ h => boot_inv p h⟩
  rw [State.reset, State.create_eq_boot_nil]
  exact boot_inv Params.reference Memory.wf_nil

/-- Settles O5: the decoder is run on each word. -/
theorem writtenWordsDecode : Obligations.WrittenWordsDecode :=
  ⟨rfl, rfl, rfl, rfl, rfl, rfl, rfl, rfl, rfl, rfl, rfl, rfl⟩

end Sys2Proof.Claims

/-! ### The flags struct (R245 to R252) -/

namespace Sys2Proof.Machine

section
variable (s : State)

theorem exec_chset (c : Choice) : exec (.chset c) s = .next (s.setChoice c) := rfl
theorem exec_chgeta : exec .chgeta s = .next (s.setA (choiceToByte s.choice)) := rfl
theorem exec_latset : exec .latset s = .next (s.setLatch true) := rfl
theorem exec_clf : exec .clf s = .next (s.setFlag false) := rfl

end

section
variable {s : State}

theorem exec_cntinc_of_lt (h : s.cnt.toNat < 2 ^ 64 - 1) : exec .cntinc s = .next (s.setCnt (s.cnt + 1)) :=
  congrArg Host.Outcome.next (if_pos h)

theorem exec_cntinc_of_ge (h : 2 ^ 64 - 1 ≤ s.cnt.toNat) : exec .cntinc s = .next s :=
  congrArg Host.Outcome.next (if_neg h.not_gt)

theorem exec_cntdec_of_pos (h : 0 < s.cnt.toNat) : exec .cntdec s = .next (s.setCnt (s.cnt - 1)) :=
  congrArg Host.Outcome.next (if_pos h)

theorem exec_cntdec_of_zero (h : s.cnt.toNat = 0) : exec .cntdec s = .next s :=
  congrArg Host.Outcome.next (if_neg h.not_gt)

theorem exec_latclr_of_latch (h : s.latch = true) : exec .latclr s = .next (s.setFlag true) :=
  congrArg Host.Outcome.next (if_pos h)

theorem exec_latclr_of_not_latch (h : s.latch = false) : exec .latclr s = .next s :=
  congrArg Host.Outcome.next (if_neg (Bool.eq_false_iff.mp h))

end

end Sys2Proof.Machine

namespace Sys2Proof.Claims

open Sys2Proof.Machine

/-- The choices stand in the order of their state numbers (R37). -/
theorem toNat_choiceToByte (c : Choice) : (choiceToByte c).toNat = c.ctorIdx := by cases c <;> rfl

/-- At the ceiling the next number is the ceiling (R247). -/
theorem exists_runs_cntinc (s : State) :
    ∃ c : Word64, c.toNat = min (s.cnt.toNat + 1) (2 ^ 64 - 1) ∧ Runs .cntinc s { s with cnt := c } := by
  have hlt : s.cnt.toNat < 2 ^ 64 := s.cnt.isLt
  rcases Nat.lt_or_ge s.cnt.toNat (2 ^ 64 - 1) with h | h
  · exact ⟨s.cnt + 1, by bv_omega, exec_cntinc_of_lt h⟩
  · exact ⟨s.cnt, by omega, exec_cntinc_of_ge h⟩

/-- At zero the number before is zero, as the subtraction of naturals has it (R248). -/
theorem exists_runs_cntdec (s : State) :
    ∃ c : Word64, c.toNat = s.cnt.toNat - 1 ∧ Runs .cntdec s { s with cnt := c } := by
  rcases Nat.eq_zero_or_pos s.cnt.toNat with h | h
  · exact ⟨s.cnt, by omega, exec_cntdec_of_zero h⟩
  · exact ⟨s.cnt - 1, by bv_omega, exec_cntdec_of_pos h⟩

/-- Settles O45: each instruction is one write or none, and the invalid choice is the decoder's. -/
theorem flagsStructInstructions : Obligations.FlagsStructInstructions := by
  refine ⟨encodes_of_encode_eq rfl rfl, encodes_of_encode_eq rfl rfl, encodes_of_encode_eq rfl rfl,
    encodes_of_encode_eq rfl rfl, encodes_of_encode_eq rfl rfl, encodes_of_encode_eq rfl rfl,
    encodes_of_encode_eq rfl rfl, encodes_of_encode_eq rfl rfl, encodes_of_encode_eq rfl rfl,
    encodes_of_encode_eq rfl rfl, ?invalidChoice, fun s => ⟨exec_chset s,
      ⟨choiceToByte s.choice, toNat_choiceToByte s.choice, exec_chgeta s⟩, exists_runs_cntinc s, exists_runs_cntdec s,
      exec_latset s, exec_latclr_of_latch, exec_latclr_of_not_latch⟩⟩
  case invalidChoice =>
    rintro s _ hs hop rfl hb
    exact step_of_invalidChoice hs (decodeAt_of_invalidChoice hop hb)

/-- Settles O46: CLF leaves LATCH for LATCLR to test. -/
theorem latchShownInFlag : Obligations.LatchShownInFlag := by
  intro s
  suffices hshown : exec .latclr (s.setFlag false) = .next (s.setFlag s.latch) from
    ⟨s.setFlag false, exec_clf s, hshown⟩
  cases hlatch : s.latch with
  | true => exact exec_latclr_of_latch hlatch
  | false => exact exec_latclr_of_not_latch hlatch

end Sys2Proof.Claims

/-! ### The gated instructions (R260 to R267, R275 to R280) -/

namespace Sys2Proof.Machine

/-! #### The gate and what stands behind it -/

section
variable {s : State}

theorem gated_of_open (body : State → State) (h : s.gate = true) : s.gated body = body s := if_pos h

theorem gated_of_closed (body : State → State) (h : s.gate = false) : s.gated body = s.setFlag true :=
  if_neg (Bool.eq_false_iff.mp h)

theorem takeKey_of_keys_eq_cons {c : Word32} {rest : List Word32} (len : Nat) (use : State → Word32 → State)
    (h : s.keys = c :: rest) : s.takeKey len use = use (s.setKeys rest) c := by
  rw [State.takeKey, h]

theorem takeLine_of_lines_eq_cons {ln : List Byte} {rest : List (List Byte)} (use : State → List Byte → State)
    (h : s.lines = ln :: rest) : s.takeLine use = use (s.setLines rest) ln := by
  rw [State.takeLine, h]

theorem takeLine_of_lines_eq_nil (use : State → List Byte → State) (h : s.lines = []) :
    s.takeLine use = use (s.setLineReqs (s.lineReqs + 1)) (Config.lineAnswer s.lineReqs) := by
  rw [State.takeLine, h]

end

/-- What GETLN does with the line it takes (R264). -/
def State.useLine (s : State) (ln : List Byte) : State :=
  if s.cfg.strCap.val < ln.length then s.setFlag true else s.setStr ln

theorem useLine_of_fits {s : State} {ln : List Byte} (h : ln.length ≤ s.cfg.strCap.val) :
    s.useLine ln = s.setStr ln := if_neg h.not_gt

theorem useLine_of_long {s : State} {ln : List Byte} (h : s.cfg.strCap.val < ln.length) :
    s.useLine ln = s.setFlag true := if_pos h

section
variable (s : State)

theorem exec_getch : exec .getch s = .next (s.gated fun t => t.takeKey 1 State.setCh) := rfl
theorem exec_getln : exec .getln s = .next (s.gated fun t => t.takeLine State.useLine) := rfl
theorem exec_wrch : exec .wrch s = .next (s.gated fun t => t.emit (.outChar t.pfx t.ch)) := rfl
theorem exec_wrlns : exec .wrlns s = .next (s.gated fun t => t.emit (.outLine t.pfx t.str)) := rfl
theorem exec_wrlnm (addr : Word) : exec (.wrlnm addr) s = .next (s.gated fun t =>
    t.emit (.outLine t.pfx (memBytes t.mem addr ((firstZero t.mem addr 65536).getD 65536)))) := rfl
theorem exec_tgdbg : exec .tgdbg s = .next (s.gated fun t => t.setDbg (!t.dbg)) := rfl
theorem exec_dbgst : exec .dbgst s = .next (s.gated fun t => t.emit (.dumpFull t.pfx t.toArchState)) := rfl
theorem exec_dbgstc : exec .dbgstc s = .next (s.gated fun t => t.emit (.dumpCompact t.pfx t.compactSnapshot)) := rfl
theorem exec_dbgmem (start stop : Word) : exec (.dbgmem start stop) s = .next (s.gated fun t =>
    t.emit (.dumpMem t.pfx start (memBytes t.mem start (stop - start).toNat))) := rfl
theorem exec_dbgstk (start stop : Word) : exec (.dbgstk start stop) s = .next (s.gated fun t =>
    t.emit (.dumpStk t.pfx start stop
      ((t.stk.take (min stop.toNat t.stk.length)).drop (min start.toNat t.stk.length)))) := rfl

end

/-! #### The bytes of a dump -/

/-- The text of WRLNM ends at the least zero byte, or takes all 65536 bytes (R267). -/
theorem getD_firstZero {m : Memory} {addr : Word} {n bound : Nat} (hn : n ≤ bound)
    (hbefore : ∀ k < n, m.read (addr + BitVec.ofNat 16 k) ≠ 0)
    (hzero : n < bound → m.read (addr + BitVec.ofNat 16 n) = 0) : (firstZero m addr bound).getD bound = n := by
  rcases hn.lt_or_eq with hlt | rfl
  · rw [(firstZero_eq_some_iff m addr bound n).mpr ⟨hlt, hzero hlt, hbefore⟩, Option.getD_some]
  · rw [(firstZero_eq_none_iff m addr n).mpr hbefore, Option.getD_none]

/-- The number of addresses of a half-open range that wraps (R278). -/
theorem toNat_sub_eq_of_emod {start stop : Word} {n : Nat}
    (h : (n : Int) = ((stop.toNat : Int) - start.toNat) % 65536) : (stop - start).toNat = n := by
  have hstart := start.isLt
  rw [toNat_sub_word]
  omega

end Sys2Proof.Machine

namespace Sys2Proof

/-- A range clipped to a list, entry by entry; it is empty where its end is not past its start (R279). -/
theorem drop_take_eq_map_getD {l : List Byte} {lo hi : Nat} (hlo : lo ≤ l.length) (hhi : hi ≤ l.length) :
    (l.take hi).drop lo = (List.range (hi - lo)).map fun k => l.getD (lo + k) 0 := by
  rw [List.drop_take, take_drop_eq_map_getD (by omega)]

end Sys2Proof

namespace Sys2Proof.Claims

open Sys2Proof.Machine

/-! #### From what an instruction runs to what its rule says -/

theorem gated_of_exec_eq {i : Instr} {s t : State} {body : State → State} (h : exec i s = .next (s.gated body))
    (hbody : body s = t) : Gated i s t :=
  ⟨fun hclosed => h.trans (congrArg _ (gated_of_closed body (Bool.eq_false_iff.mpr (mt (gate_iff s).mp hclosed)))),
    fun hopen => h.trans (congrArg _ ((gated_of_open body ((gate_iff s).mpr hopen)).trans hbody))⟩

theorem emits_of_exec_eq {i : Instr} {s : State} {event : State → Event} {e : Event}
    (h : exec i s = .next (s.gated fun t => t.emit (event t))) (he : event s = e) : Emits i s e :=
  gated_of_exec_eq h (congrArg s.emit he)

/-- The encoding line of the two range dumps (format HH). -/
theorem beBytes_word_append_beBytes_word (x y : Word) :
    beBytes 2 x.toNat ++ beBytes 2 y.toNat = [hi8 x, lo8 x, hi8 y, lo8 y] := by
  rw [beBytes_word_eq_hi8_lo8, beBytes_word_eq_hi8_lo8]
  rfl

/-! #### The claims -/

/-- Settles O48: the answer listed first is the one taken. -/
theorem getCharTakesAnswer : Obligations.GetCharTakesAnswer :=
  ⟨encodes_of_encode_eq rfl rfl,
    fun s _ _ hkeys => gated_of_exec_eq (exec_getch s) (takeKey_of_keys_eq_cons 1 State.setCh hkeys)⟩

/-- Settles O49: the hold undoes the advance, and the answer makes it stand. -/
theorem getCharHoldsUntilAnswered : Obligations.GetCharHoldsUntilAnswered := fun _ h =>
  ⟨step_of_holding h, step_answerChar_of_holding h⟩

/-- GETLN takes the line, listed or free, and uses it in the state without it. -/
theorem takeLine_eq {s : State} {ln : List Byte} {lines : List (List Byte)} {reqs : Nat}
    (h : (s.lines = ln :: lines ∧ reqs = s.lineReqs) ∨
      (s.lines = [] ∧ lines = [] ∧ ln = Config.lineAnswer s.lineReqs ∧ reqs = s.lineReqs + 1))
    (use : State → List Byte → State) : s.takeLine use = use { s with lines := lines, lineReqs := reqs } ln := by
  rcases h with ⟨hlines, rfl⟩ | ⟨hlines, rfl, rfl, rfl⟩
  · exact takeLine_of_lines_eq_cons use hlines
  · rw [takeLine_of_lines_eq_nil use hlines, ← hlines]
    rfl

/-- Settles O50: whichever line is taken, it is used from the state without it. -/
theorem getLineReplacesString : Obligations.GetLineReplacesString := by
  refine ⟨encodes_of_encode_eq rfl rfl, fun s ln lines reqs hline => ⟨fun hfits => ?_, fun hlong => ?_⟩⟩
  · exact gated_of_exec_eq (exec_getln s) ((takeLine_eq hline State.useLine).trans (useLine_of_fits hfits))
  · exact gated_of_exec_eq (exec_getln s) ((takeLine_eq hline State.useLine).trans (useLine_of_long hlong))

/-- Settles O51: each is one event behind the gate, and the text of WRLNM ends where the scan stops. -/
theorem writesEmitTheirEvent : Obligations.WritesEmitTheirEvent := by
  refine ⟨encodes_of_encode_eq rfl rfl, encodes_of_encode_eq rfl rfl, fun _ => encodes_of_encode_eq_word rfl rfl,
    fun s => ⟨emits_of_exec_eq (exec_wrch s) rfl, emits_of_exec_eq (exec_wrlns s) rfl,
      fun addr n hn hbefore hzero => emits_of_exec_eq (exec_wrlnm s addr) ?text⟩⟩
  case text =>
    rw [getD_firstZero hn hbefore hzero, memBytes_eq_bytesAt]
    rfl

/-- Settles O52: behind the gate TGDBG is one write, and each dump one event with its snapshot. -/
theorem toggleAndStateDumps : Obligations.ToggleAndStateDumps :=
  ⟨encodes_of_encode_eq rfl rfl, encodes_of_encode_eq rfl rfl, encodes_of_encode_eq rfl rfl, fun s =>
    ⟨gated_of_exec_eq (exec_tgdbg s) rfl, emits_of_exec_eq (exec_dbgst s) rfl,
      emits_of_exec_eq (exec_dbgstc s) rfl⟩⟩

/-- Settles O53: the length of the memory range is a difference of words, and both bounds of the stack range lie on the
stack. -/
theorem rangeDumps : Obligations.RangeDumps := by
  refine ⟨fun start stop => ⟨?_, ?_⟩, fun s start stop => ⟨fun n hn => ?memory, ?stack⟩⟩
  · exact encodes_of_encode_eq rfl (congrArg _ (beBytes_word_append_beBytes_word start stop))
  · exact encodes_of_encode_eq rfl (congrArg _ (beBytes_word_append_beBytes_word start stop))
  case memory =>
    refine emits_of_exec_eq (exec_dbgmem s start stop) ?_
    rw [toNat_sub_eq_of_emod hn, memBytes_eq_bytesAt]
    rfl
  case stack =>
    rintro _ _ rfl rfl
    refine emits_of_exec_eq (exec_dbgstk s start stop) ?_
    rw [drop_take_eq_map_getD (min_le_right _ _) (min_le_right _ _)]
    rfl

end Sys2Proof.Claims

/-! ### The causes of FLAG (R33, R296) -/

namespace Sys2Proof.Machine

/-- From `s` to `t` FLAG is raised exactly if `cause` applied, and is never lowered. -/
def FlagRaised (cause : Prop) (s t : State) : Prop := t.flag = true ↔ cause ∨ s.flag = true

section
variable {s t u : State} {cause cause' : Prop}

theorem FlagRaised.congr (h : FlagRaised cause s t) (hcause : cause ↔ cause') : FlagRaised cause' s t :=
  h.trans (or_congr_left hcause)

theorem FlagRaised.of_cause (hcause : cause) (ht : t.flag = true) : FlagRaised cause s t :=
  iff_of_true ht (.inl hcause)

theorem FlagRaised.of_not_cause (hcause : ¬cause) (ht : t.flag = s.flag) : FlagRaised cause s t := by
  rw [FlagRaised, ht, or_iff_right hcause]

/-- An instruction without a cause. -/
theorem FlagRaised.of_flag_eq (ht : t.flag = s.flag) : FlagRaised False s t := .of_not_cause not_false ht

theorem FlagRaised.ite {c : Prop} [Decidable c] (hc : c ↔ cause) (ht : t.flag = true) (hu : u.flag = s.flag) :
    FlagRaised cause s (if c then t else u) := by
  split
  next htrue => exact .of_cause (hc.mp htrue) ht
  next hfalse => exact .of_not_cause (mt hc.mpr hfalse) hu

theorem FlagRaised.ite_not {c : Prop} [Decidable c] (hc : ¬c ↔ cause) (ht : t.flag = s.flag) (hu : u.flag = true) :
    FlagRaised cause s (if c then t else u) := by
  split
  next htrue => exact .of_not_cause (fun hcause => hc.mpr hcause htrue) ht
  next hfalse => exact .of_cause (hc.mp hfalse) hu

/-- Between states with the flag of `s`, a choice without a cause. -/
theorem FlagRaised.ite_of_flag_eq {c : Prop} [Decidable c] (ht : t.flag = s.flag) (hu : u.flag = s.flag) :
    FlagRaised False s (if c then t else u) :=
  .of_flag_eq (by split <;> assumption)

end

/-! #### One rule per shared operation -/

section
variable (s : State)

theorem flagRaised_raiseFlagIf (t : State) (c : Bool) : FlagRaised (c = true) t (t.raiseFlagIf c) := by
  rw [FlagRaised, raiseFlagIf_eq, setFlag_flag, Bool.or_eq_true, or_comm]

/-- Row 10: signed overflow of the exact result. -/
theorem flagRaised_writeChecked (z : Int) : FlagRaised (¬(-32768 ≤ z ∧ z ≤ 32767)) s (s.writeChecked z) :=
  (flagRaised_raiseFlagIf (s.setB (wrap16 z)) (!fits16 z)).congr (by simp [← fits16_iff])

/-- Row 1: a push that does not fit. -/
theorem flagRaised_pushBytes (bs : List Byte) :
    FlagRaised (s.cfg.stackCap.val < s.stk.length + bs.length) s (s.pushBytes bs) := by
  rcases pushBytes_cases s bs with ⟨hfits, heq⟩ | ⟨hfull, heq⟩ <;> rw [heq]
  · exact .of_not_cause hfits.not_gt rfl
  · exact .of_cause hfull rfl

theorem flagRaised_pushVal (n v : Nat) : FlagRaised (s.cfg.stackCap.val < s.stk.length + n) s (s.pushVal n v) := by
  simpa [State.pushVal] using flagRaised_pushBytes s (leBytes n v)

/-- Row 2: a dealloc of more than is held. -/
theorem flagRaised_stkDealloc (n : Nat) : FlagRaised (s.stk.length < n) s (s.stkOrFlag (stkDealloc s.stk n)) := by
  rcases Nat.lt_or_ge s.stk.length n with hshort | henough
  · rw [stkDealloc_of_short hshort]
    exact .of_cause hshort rfl
  · rw [stkDealloc_of_enough henough]
    exact .of_not_cause henough.not_gt rfl

/-- Row 2: a pop of more than is held, where what follows the pop leaves FLAG alone. -/
theorem flagRaised_popVal (n : Nat) {use : State → Nat → State} (huse : ∀ t v, (use t v).flag = t.flag) :
    FlagRaised (s.stk.length < n) s (s.popVal n use) := by
  rcases popVal_cases s n use with ⟨hshort, heq⟩ | ⟨henough, heq⟩ <;> rw [heq]
  · exact .of_cause hshort rfl
  · exact .of_not_cause henough.not_gt (huse _ _)

/-- Row 3: underflow in a jump whose condition holds. -/
theorem flagRaised_popEpIf {c : Bool} {cond : Prop} (hc : c = true ↔ cond) :
    FlagRaised (cond ∧ s.stk.length < 2) s (s.popEpIf c) := by
  rw [← hc]
  cases c with
  | false => exact .of_not_cause (fun hcause => Bool.false_ne_true hcause.1) rfl
  | true =>
    rw [popEpIf_true, and_iff_right rfl]
    exact flagRaised_popVal s 2 fun _ _ => rfl

/-- Row 4: an append that does not fit. -/
theorem flagRaised_strAppend (bs : List Byte) : FlagRaised (s.cfg.strCap.val < s.str.length + bs.length) s
    (s.strOrFlag (strAppend s.cfg.strCap.val s.str bs)) := by
  rcases strAppend_cases s.cfg.strCap.val s.str bs with ⟨hfits, heq⟩ | ⟨hfull, heq⟩ <;> rw [heq]
  · exact .of_not_cause hfits.not_gt rfl
  · exact .of_cause hfull rfl

/-- Row 6: an array index beyond slot 36. -/
theorem flagRaised_setSlot (idx v : Byte) : FlagRaised (36 < idx.toNat) s (s.setSlot idx v) := by
  rcases setSlot_cases s idx v with ⟨hlt, heq⟩ | ⟨hle, heq⟩ <;> rw [heq]
  · exact .of_not_cause (by omega) rfl
  · exact .of_cause hle rfl

end

end Sys2Proof.Machine

namespace Sys2Proof.Claims

open Sys2Proof.Machine

section
variable (s : State)

/-- Row 7: the gate is closed; what stands behind it may have a cause of its own. -/
theorem flagRaised_gated {body : State → State} {cause : Prop} (hbody : FlagRaised cause s (body s)) :
    FlagRaised (¬GateOpen s ∨ cause) s (s.gated body) := by
  rcases gated_cases s body with ⟨hopen, heq⟩ | ⟨hclosed, heq⟩ <;> rw [heq]
  · have hgate : GateOpen s := (gate_iff s).mp hopen
    exact hbody.congr (or_iff_right (not_not.mpr hgate)).symm
  · exact .of_cause (.inl (mt (gate_iff s).mpr (Bool.eq_false_iff.mp hclosed))) rfl

theorem flagRaised_gated_of_flag_eq {body : State → State} (hbody : (body s).flag = s.flag) :
    FlagRaised (¬GateOpen s) s (s.gated body) :=
  (flagRaised_gated s (.of_flag_eq hbody)).congr (or_iff_left not_false)

theorem flag_takeKey (len : Nat) : (s.takeKey len State.setCh).flag = s.flag := by
  rcases takeKey_cases s len State.setCh with ⟨-, heq⟩ | ⟨c, rest, -, heq⟩ <;> rw [heq] <;> rfl

/-- Row 4 in GETLN: the line taken is too long. -/
theorem flagRaised_takeLine :
    FlagRaised (s.cfg.strCap.val < (nextLine s).length) s (s.takeLine State.useLine) := by
  rcases takeLine_cases s State.useLine with ⟨hlines, heq⟩ | ⟨ln, rest, hlines, heq⟩ <;>
    rw [heq, nextLine, hlines]
  · exact .ite Iff.rfl rfl rfl
  · exact .ite Iff.rfl rfl rfl

/-- Row 4 in SLDM: no zero byte within STR_CAP. -/
theorem flagRaised_sldm (addr : Word) :
    FlagRaised (∀ n ≤ s.cfg.strCap.val, s.mem.read (addr + BitVec.ofNat 16 n) ≠ 0) s
      (s.strOrFlag ((firstZero s.mem addr (s.cfg.strCap.val + 1)).map (memBytes s.mem addr))) := by
  simp only [← Nat.lt_succ_iff, Nat.succ_eq_add_one, ← firstZero_eq_none_iff]
  cases firstZero s.mem addr (s.cfg.strCap.val + 1) with
  | none => exact .of_cause rfl rfl
  | some n => exact .of_not_cause (Option.some_ne_none n) rfl

/-- Rows 2 and 13: underflow, or a popped value that is no scalar. -/
theorem flagRaised_popch : FlagRaised (s.stk.length < 4 ∨
    ¬(topValue s.stk 4 ≤ 0xD7FF ∨ (0xE000 ≤ topValue s.stk 4 ∧ topValue s.stk 4 ≤ 0x10FFFF))) s
    (s.popVal 4 fun t v => if isScalar (BitVec.ofNat 32 v) then t.setCh (BitVec.ofNat 32 v) else s.setFlag true) := by
  rcases Nat.lt_or_ge s.stk.length 4 with hshort | henough
  · rw [popVal_of_short _ hshort]
    exact .of_cause (.inl hshort) rfl
  · rw [popVal_of_enough _ henough, or_iff_right henough.not_gt, ← isScalar_ofNat_topValue henough]
    exact .ite_not Iff.rfl ((setCh_flag _ _).trans (setStk_flag _ _)) rfl

/-- Row 8: the allow-list is R124's. -/
theorem flagRaised_setdp (addr : Word) :
    FlagRaised (¬(IsFibonacci addr.toNat ∧ (addr.toNat.Prime ∨ IsSemiprime addr.toNat))) s
      (if allowed addr then s.setDp addr else s.raiseFlag) := by
  rw [isFibonacci_and_prime_or_isSemiprime_iff addr.isLt, ← allowed_iff]
  exact .ite_not Iff.rfl rfl rfl

/-- Rows 11 and 12: the operand clamp, and the result clamp, which is only ever from below. -/
theorem cmp_clamped_iff (b l : Word) :
    (cmpOperandClamped l || cmpResultClamped (b.toInt - cmpOperand l)) = true ↔
      32767 < l.toNat ∨ b.toInt - min (l.toNat : Int) 32767 < -32768 := by
  rw [cmpResultClamped, fits16_sub_cmpOperand, cmpOperandClamped, cmpOperand_eq_min]
  simp only [Bool.or_eq_true, decide_eq_true_iff, Bool.not_eq_true', decide_eq_false_iff_not, not_le]

end

/-- Every instruction but CLF and TGF raises FLAG exactly for its causes and never lowers it (R296, R33). -/
theorem exec_flagRaised {i : Instr} (s : State) (hclf : i ≠ .clf) (htgf : i ≠ .tgf) :
    ∃ t, exec i s = .next t ∧ FlagRaised (FlagCause s i) s t := by
  cases i with
  | clf => exact absurd rfl hclf
  | tgf => exact absurd rfl htgf
  | setdp addr => exact ⟨_, rfl, flagRaised_setdp s addr⟩
  | add | sub | mul => exact ⟨_, rfl, flagRaised_writeChecked s _⟩
  | cmp => exact ⟨_, rfl, (flagRaised_raiseFlagIf (s.setB _) _).congr (cmp_clamped_iff s.b s.l)⟩
  | salloc n =>
    have hpush := flagRaised_pushBytes s (List.replicate n.toNat 0)
    rw [List.length_replicate] at hpush
    exact ⟨_, exec_salloc s n, hpush⟩
  | sdealloc n => exact ⟨_, rfl, flagRaised_stkDealloc s n.toNat⟩
  | pushs => exact ⟨_, rfl, flagRaised_pushBytes s s.str⟩
  | pushi | pushw | pushm | pusha | pushb | pushl | pushf | pushch | pushnum | pushcnt =>
    exact ⟨_, rfl, flagRaised_pushVal s _ _⟩
  | popm | popa | popb | popl | popf | popnum => exact ⟨_, rfl, flagRaised_popVal s _ fun _ _ => rfl⟩
  | popch => exact ⟨_, rfl, flagRaised_popch s⟩
  | pep => exact ⟨_, rfl, (flagRaised_popEpIf s Iff.rfl).congr (and_iff_right rfl)⟩
  | pepz | pepp | pepn => exact ⟨_, rfl, flagRaised_popEpIf s decide_eq_true_iff⟩
  | pepf | pepd => exact ⟨_, rfl, flagRaised_popEpIf s Iff.rfl⟩
  | pepaz => exact ⟨_, rfl, flagRaised_popEpIf s (beq_zero_iff_toNat_eq_zero s.a)⟩
  | rget idx => exact ⟨_, rfl, .ite_not Nat.not_lt rfl rfl⟩
  | rset | rseti => exact ⟨_, rfl, flagRaised_setSlot s _ _⟩
  | rcpm | latclr => exact ⟨_, rfl, .ite Iff.rfl rfl rfl⟩
  | sldm addr => exact ⟨_, rfl, flagRaised_sldm s addr⟩
  | sapp => exact ⟨_, rfl, flagRaised_strAppend s [s.a]⟩
  | sappm addr n =>
    have happend := flagRaised_strAppend s (memBytes s.mem addr n.toNat)
    rw [length_memBytes] at happend
    exact ⟨_, rfl, happend⟩
  | sget idx =>
    rcases Nat.lt_or_ge idx.toNat s.str.length with hlt | hle
    · exact ⟨_, exec_sget_of_lt hlt, .of_not_cause hlt.not_ge rfl⟩
    · exact ⟨_, exec_sget_of_le hle, .of_cause hle rfl⟩
  | sset idx => exact ⟨_, rfl, .ite_not Nat.not_lt rfl rfl⟩
  | concl | cntinc | cntdec => exact ⟨_, rfl, .ite_of_flag_eq rfl rfl⟩
  | getch => exact ⟨_, rfl, flagRaised_gated_of_flag_eq s (flag_takeKey s 1)⟩
  | getln => exact ⟨_, rfl, flagRaised_gated s (flagRaised_takeLine s)⟩
  | wrch | wrlns | wrlnm | tgdbg | dbgst | dbgstc | dbgmem | dbgstk =>
    exact ⟨_, rfl, flagRaised_gated_of_flag_eq s rfl⟩
  | _ => exact ⟨_, rfl, .of_flag_eq rfl⟩

/-- Settles O17: CLF and TGF write FLAG by their own rules, and every other instruction only ever raises it. -/
theorem flagSetExactlyByItsCauses : Obligations.FlagSetExactlyByItsCauses := by
  intro i s t hexec
  by_cases hclf : i = .clf
  · subst hclf
    obtain rfl : s.setFlag false = t := Host.Outcome.next.inj ((exec_clf s).symm.trans hexec)
    refine iff_of_false Bool.false_ne_true ?_
    rintro (hcause | ⟨-, hne, -⟩)
    · exact hcause
    · exact hne rfl
  by_cases htgf : i = .tgf
  · subst htgf
    obtain rfl : s.setFlag (!s.flag) = t := Host.Outcome.next.inj ((exec_tgf s).symm.trans hexec)
    exact (iff_of_eq (Bool.not_eq_true' s.flag)).trans (or_iff_left fun ⟨_, _, hne⟩ => hne rfl).symm
  obtain ⟨u, hu, hflag⟩ := exec_flagRaised s hclf htgf
  obtain rfl : u = t := Host.Outcome.next.inj (hu.symm.trans hexec)
  exact hflag.trans (or_congr_right (and_iff_left ⟨hclf, htgf⟩).symm)

/-- Behind every gated instruction stands the gate: closed, it sets FLAG alone (R262). -/
theorem exists_body_of_isGated {i : Instr} (h : isGated i = true) :
    ∃ body : State → State, ∀ s, exec i s = .next (s.gated body) := by
  cases i with
  | getch => exact ⟨_, exec_getch⟩
  | getln => exact ⟨_, exec_getln⟩
  | wrch => exact ⟨_, exec_wrch⟩
  | wrlns => exact ⟨_, exec_wrlns⟩
  | wrlnm addr => exact ⟨_, fun s => exec_wrlnm s addr⟩
  | tgdbg => exact ⟨_, exec_tgdbg⟩
  | dbgst => exact ⟨_, exec_dbgst⟩
  | dbgstc => exact ⟨_, exec_dbgstc⟩
  | dbgmem start stop => exact ⟨_, fun s => exec_dbgmem s start stop⟩
  | dbgstk start stop => exact ⟨_, fun s => exec_dbgstk s start stop⟩
  | _ => cases h

/-- Settles O47: CLF and TGF are not gated, so what a gated instruction does to FLAG it does for a cause. -/
theorem gateDecidesGatedInstructions : Obligations.GateDecidesGatedInstructions := by
  intro i s hi
  obtain ⟨body, hbody⟩ := exists_body_of_isGated hi
  obtain ⟨hclosed, -⟩ := gated_of_exec_eq (hbody s) rfl
  obtain ⟨t, ht, hflag⟩ := exec_flagRaised s (i := i) (by rintro rfl; cases hi) (by rintro rfl; cases hi)
  exact ⟨hclosed, fun _ => ⟨t, ht, fun hset => hflag.mpr (.inr hset)⟩⟩

end Sys2Proof.Claims

/-! ### The elements as a family (R20)

The claims about who touches what range over the 20 elements: `Element` names them, so that one proof per instruction
serves all of them. -/

namespace Sys2Proof.Machine

/-- The 20 elements of R20. -/
inductive Element where
  | a | b | l | ep | dp | f | ch | num | r | str | stk | mem | flag | dbg | halted | fault | choice | cnt | doom | latch

/-- What an element holds. -/
abbrev Element.Val : Element → Type
  | .a => Byte
  | .b | .l | .ep | .dp => Word
  | .f | .cnt => Word64
  | .ch | .num => Word32
  | .r | .str | .stk => List Byte
  | .mem => Memory
  | .flag | .dbg | .halted | .doom | .latch => Bool
  | .fault => Option FaultRecord
  | .choice => Choice

/-- The value of an element. -/
def ArchState.element (s : ArchState) : (e : Element) → e.Val
  | .a => s.a
  | .b => s.b
  | .l => s.l
  | .ep => s.ep
  | .dp => s.dp
  | .f => s.f
  | .ch => s.ch
  | .num => s.num
  | .r => s.r
  | .str => s.str
  | .stk => s.stk
  | .mem => s.mem
  | .flag => s.flag
  | .dbg => s.dbg
  | .halted => s.halted
  | .fault => s.fault
  | .choice => s.choice
  | .cnt => s.cnt
  | .doom => s.doom
  | .latch => s.latch

/-- The state with these values of its elements. -/
def ArchState.ofElements (g : (e : Element) → e.Val) : ArchState :=
  { a := g .a, b := g .b, l := g .l, ep := g .ep, dp := g .dp, f := g .f, ch := g .ch, num := g .num, r := g .r,
    str := g .str, stk := g .stk, mem := g .mem, flag := g .flag, dbg := g .dbg, halted := g .halted,
    fault := g .fault, choice := g .choice, cnt := g .cnt, doom := g .doom, latch := g .latch }

/-- The write of one element. -/
def ArchState.withElement (s : ArchState) : (e : Element) → e.Val → ArchState
  | .a, v => { s with a := v }
  | .b, v => { s with b := v }
  | .l, v => { s with l := v }
  | .ep, v => { s with ep := v }
  | .dp, v => { s with dp := v }
  | .f, v => { s with f := v }
  | .ch, v => { s with ch := v }
  | .num, v => { s with num := v }
  | .r, v => { s with r := v }
  | .str, v => { s with str := v }
  | .stk, v => { s with stk := v }
  | .mem, v => { s with mem := v }
  | .flag, v => { s with flag := v }
  | .dbg, v => { s with dbg := v }
  | .halted, v => { s with halted := v }
  | .fault, v => { s with fault := v }
  | .choice, v => { s with choice := v }
  | .cnt, v => { s with cnt := v }
  | .doom, v => { s with doom := v }
  | .latch, v => { s with latch := v }

/-- The write of one element of a machine, its ports left alone. -/
def State.withElement (s : State) (e : Element) (v : e.Val) : State :=
  { s with toArchState := s.toArchState.withElement e v }

namespace ArchState

theorem element_ofElements (g : (e : Element) → e.Val) (e : Element) : (ofElements g).element e = g e := by
  cases e <;> rfl

theorem ofElements_element (s : ArchState) : ofElements s.element = s := rfl

/-- Equal in every element is equal. -/
theorem eq_of_element_eq {s t : ArchState} (h : ∀ e, s.element e = t.element e) : s = t :=
  congrArg ofElements (funext h)

/-- The elements are disjoint fields (R41): a write of one is an update of the family at one place. -/
theorem withElement_eq_update [DecidableEq Element] (s : ArchState) (e : Element) (v : e.Val) :
    s.withElement e v = ofElements (Function.update s.element e v) := by
  cases e <;> simp [withElement, ofElements, element]

theorem element_withElement [DecidableEq Element] (s : ArchState) (e : Element) (v : e.Val) :
    (s.withElement e v).element = Function.update s.element e v := by
  rw [withElement_eq_update]
  exact funext (element_ofElements _)

theorem withElement_comm (s : ArchState) {e e' : Element} (h : e ≠ e') (v : e.Val) (v' : e'.Val) :
    (s.withElement e v).withElement e' v' = (s.withElement e' v').withElement e v := by
  classical
  rw [withElement_eq_update, element_withElement, Function.update_comm h, ← element_withElement,
    ← withElement_eq_update]

end ArchState

section
variable (s : State) {e e' : Element}

theorem element_withElement_self (e : Element) (v : e.Val) : (s.withElement e v).element e = v := by
  classical
  rw [State.withElement, ArchState.element_withElement, Function.update_self]

theorem element_withElement_of_ne (h : e' ≠ e) (v : e.Val) : (s.withElement e v).element e' = s.element e' := by
  classical
  rw [State.withElement, ArchState.element_withElement, Function.update_of_ne h]

theorem withElement_element (e : Element) : s.withElement e (s.element e) = s := by
  classical
  rw [State.withElement, ArchState.withElement_eq_update, Function.update_eq_self, ArchState.ofElements_element]

theorem withElement_comm (h : e ≠ e') (v : e.Val) (v' : e'.Val) :
    (s.withElement e v).withElement e' v' = (s.withElement e' v').withElement e v :=
  congrArg (fun x : ArchState => { s with toArchState := x }) (s.toArchState.withElement_comm h v v')

end

/-! ### The state an instruction leads to -/

/-- The state an instruction leads to; there always is one (`exists_exec_next`). -/
def nextOf (i : Instr) (s : State) : State :=
  match exec i s with
  | .next t => t
  | .fault _ | .refused _ => s

theorem nextOf_of_exec {i : Instr} {s t : State} (h : exec i s = .next t) : nextOf i s = t := by rw [nextOf, h]

theorem exec_eq_next (i : Instr) (s : State) : exec i s = .next (nextOf i s) := by
  obtain ⟨t, ht⟩ := exists_exec_next i s
  rw [nextOf_of_exec ht, ht]

/-! ### Updates that commute with an instruction

An update changes a state from outside: another value in an element, another past trace, one more answer listed. Each
shared operation commutes with an update that keeps what the operation reads and spares what it writes. -/

/-- The update leaves the element alone, and does the same before and after a write of it. -/
structure Spares (upd : State → State) (e : Element) : Prop where
  keeps : ∀ s, (upd s).element e = s.element e
  comm : ∀ s v, (upd s).withElement e v = upd (s.withElement e v)

/-- Another value in one element spares every other. -/
theorem spares_withElement {e e' : Element} (h : e' ≠ e) (v : e.Val) : Spares (·.withElement e v) e' where
  keeps s := element_withElement_of_ne s h v
  comm s v' := withElement_comm s h.symm v v'

section
variable {upd : State → State} {s : State}

theorem Spares.write {e : Element} (h : Spares upd e) {v' v : e.Val} (hv : v' = v) :
    (upd s).withElement e v' = upd (s.withElement e v) := hv ▸ h.comm s v'

theorem ite_commutes {c' c : Prop} [Decidable c'] [Decidable c] {t' t u' u : State} (hc : c' ↔ c) (ht : t' = upd t)
    (hu : u' = upd u) : (if c' then t' else u') = upd (if c then t else u) := by
  rw [apply_ite upd, ht, hu]
  exact if_congr hc rfl rfl

theorem gated_commutes (hflag : Spares upd .flag) (hmem : (upd s).mem = s.mem) (hdp : (upd s).dp = s.dp)
    {body' body : State → State} (hbody : s.gate = true → body' (upd s) = upd (body s)) :
    (upd s).gated body' = upd (s.gated body) := by
  have hgate : (upd s).gate = s.gate := by rw [State.gate, State.gate, hmem, hdp]
  cases h : s.gate with
  | true => rw [gated_of_open body h, gated_of_open body' (hgate.trans h), hbody h]
  | false =>
    rw [gated_of_closed body h, gated_of_closed body' (hgate.trans h)]
    exact hflag.comm s true

theorem raiseFlagIf_commutes (hflag : Spares upd .flag) {c' c : Bool} (hc : c' = c) :
    (upd s).raiseFlagIf c' = upd (s.raiseFlagIf c) :=
  hflag.write (congrArg₂ or (hflag.keeps s) hc)

theorem writeChecked_commutes (hb : Spares upd .b) (hflag : Spares upd .flag) {z' z : Int} (hz : z' = z) :
    (upd s).writeChecked z' = upd (s.writeChecked z) := by
  subst hz
  have hwrite : (upd s).setB (wrap16 z') = upd (s.setB (wrap16 z')) := hb.write rfl
  rw [State.writeChecked, hwrite]
  exact raiseFlagIf_commutes hflag rfl

theorem strOrFlag_commutes (hstr : Spares upd .str) (hflag : Spares upd .flag) {o' o : Option (List Byte)}
    (ho : o' = o) : (upd s).strOrFlag o' = upd (s.strOrFlag o) := by
  subst ho
  cases o' with
  | none => exact hflag.write rfl
  | some v => exact hstr.write rfl

theorem setSlot_commutes (hr : Spares upd .r) (hflag : Spares upd .flag) (idx : Byte) {v' v : Byte} (hv : v' = v) :
    (upd s).setSlot idx v' = upd (s.setSlot idx v) :=
  ite_commutes Iff.rfl (hr.write (congrArg₂ (·.set idx.toNat ·) (hr.keeps s) hv)) (hflag.write rfl)

/-! #### The stack -/

section
variable (hstk : Spares upd .stk) (hflag : Spares upd .flag)
include hstk hflag

theorem stkOrFlag_commutes {o' o : Option (List Byte)} (ho : o' = o) :
    (upd s).stkOrFlag o' = upd (s.stkOrFlag o) := by
  subst ho
  cases o' with
  | none => exact hflag.write rfl
  | some stk => exact hstk.write rfl

theorem pushBytes_commutes (hcfg : (upd s).cfg = s.cfg) {bs' bs : List Byte} (hbs : bs' = bs) :
    (upd s).pushBytes bs' = upd (s.pushBytes bs) := by
  have hread : (upd s).stk = s.stk := hstk.keeps s
  exact stkOrFlag_commutes hstk hflag (by rw [hread, hcfg, hbs])

theorem pushVal_commutes (hcfg : (upd s).cfg = s.cfg) (n : Nat) {v' v : Nat} (hv : v' = v) :
    (upd s).pushVal n v' = upd (s.pushVal n v) :=
  pushBytes_commutes hstk hflag hcfg (congrArg (leBytes n) hv)

theorem popVal_commutes (n : Nat) {use' use : State → Nat → State}
    (huse : ∀ rest v, use' (upd (s.setStk rest)) v = upd (use (s.setStk rest) v)) :
    (upd s).popVal n use' = upd (s.popVal n use) := by
  have hread : (upd s).stk = s.stk := hstk.keeps s
  have hwrite : ∀ rest, (upd s).setStk rest = upd (s.setStk rest) := hstk.comm s
  rw [State.popVal, State.popVal, hread]
  cases stkPopVal n s.stk with
  | none => exact hflag.write rfl
  | some p => exact (congrArg (use' · p.1) (hwrite p.2)).trans (huse p.2 p.1)

theorem popEpIf_commutes (hep : Spares upd .ep) {c' c : Bool} (hc : c' = c) :
    (upd s).popEpIf c' = upd (s.popEpIf c) :=
  ite_commutes (by rw [hc]) (popVal_commutes hstk hflag 2 fun _ _ => hep.write rfl) rfl

end

/-! #### The input ports -/

theorem takeKey_commutes (hch : Spares upd .ch) (hep : Spares upd .ep) (hkeys : (upd s).keys = s.keys)
    (hset : ∀ keys, (upd s).setKeys keys = upd (s.setKeys keys)) :
    (upd s).takeKey 1 State.setCh = upd (s.takeKey 1 State.setCh) := by
  rw [State.takeKey, State.takeKey, hkeys]
  cases s.keys with
  | nil => exact hep.write (congrArg (· - BitVec.ofNat 16 1) (hep.keeps s))
  | cons c rest => exact (congrArg (·.setCh c) (hset rest)).trans (hch.write rfl)

theorem useLine_commutes (hstr : Spares upd .str) (hflag : Spares upd .flag) (hcfg : (upd s).cfg = s.cfg)
    (ln : List Byte) : (upd s).useLine ln = upd (s.useLine ln) :=
  ite_commutes (by rw [hcfg]) (hflag.write rfl) (hstr.write rfl)

theorem takeLine_commutes (hstr : Spares upd .str) (hflag : Spares upd .flag)
    (hcfg : ∀ t : State, t.cfg = s.cfg → (upd t).cfg = s.cfg)
    (hlines : (upd s).lines = s.lines) (hreqs : (upd s).lineReqs = s.lineReqs)
    (hset : ∀ lines, (upd s).setLines lines = upd (s.setLines lines))
    (hsetReqs : ∀ reqs, (upd s).setLineReqs reqs = upd (s.setLineReqs reqs)) :
    (upd s).takeLine State.useLine = upd (s.takeLine State.useLine) := by
  cases h : s.lines with
  | nil =>
    rw [takeLine_of_lines_eq_nil _ h, takeLine_of_lines_eq_nil _ (hlines.trans h), hreqs, hsetReqs]
    exact useLine_commutes hstr hflag (hcfg (s.setLineReqs (s.lineReqs + 1)) rfl) _
  | cons ln rest =>
    rw [takeLine_of_lines_eq_cons _ h, takeLine_of_lines_eq_cons _ (hlines.trans h), hset]
    exact useLine_commutes hstr hflag (hcfg (s.setLines rest) rfl) ln

end

end Sys2Proof.Machine

/-! ### Who touches what (R45) -/

namespace Sys2Proof.Claims

open Sys2Proof.Machine

/-- The writers of an element in the table of R45. -/
def writers : Element → Instr → Bool
  | .a => writesA
  | .b => writesB
  | .l => writesL
  | .ep => writesEp
  | .dp => writesDp
  | .f => writesF
  | .ch => writesCh
  | .num => writesNum
  | .r => writesR
  | .str => writesS
  | .stk => writesStk
  | .mem => writesMem
  | .flag => writesFlag
  | .dbg => writesDbg
  | .halted => writesHalted
  | .fault => readsNothing
  | .choice => writesChoice
  | .cnt => writesCnt
  | .doom => writesDoom
  | .latch => writesLatch

/-- The readers of an element in the table of R45, the two full dumps apart. -/
def readers : Element → Instr → Bool
  | .a => readsA
  | .b => readsB
  | .l => readsL
  | .ep | .halted | .fault => readsNothing
  | .dp => isGated
  | .f => readsF
  | .ch => readsCh
  | .num => readsNum
  | .r => readsR
  | .str => readsS
  | .stk => readsStk
  | .mem => readsMem
  | .flag => readsFlag
  | .dbg => readsDbg
  | .choice => readsChoice
  | .cnt => readsCnt
  | .doom => readsDoom
  | .latch => readsLatch

/-- The update keeps the parameters, and commutes with what the instruction does at the ports of `s`. -/
structure PortsCommute (upd : State → State) (i : Instr) (s : State) : Prop where
  cfg : (upd s).cfg = s.cfg
  emit : isEmitting i = true → s.gate = true → ∀ ev, (upd s).emit ev = upd (s.emit ev)
  takeKey : i = .getch → s.gate = true → (upd s).takeKey 1 State.setCh = upd (s.takeKey 1 State.setCh)
  takeLine : i = .getln → s.gate = true → (upd s).takeLine State.useLine = upd (s.takeLine State.useLine)

section
variable {upd : State → State} {s : State}

theorem pfx_congr (hcfg : (upd s).cfg = s.cfg) (hnum : (upd s).num = s.num) : (upd s).pfx = s.pfx := by
  rw [State.pfx, State.pfx, hcfg, hnum]

theorem compactSnapshot_congr (h : (upd s).toArchState = s.toArchState) :
    (upd s).compactSnapshot = s.compactSnapshot := by
  simp only [State.compactSnapshot, h]

theorem nextOf_popVal_commutes {i : Instr} {n : Nat} {use : State → State → Nat → State}
    (hexec : ∀ t, exec i t = .next (t.popVal n (use t))) (hstk : Spares upd .stk) (hflag : Spares upd .flag)
    (huse : ∀ rest v, use (upd s) (upd (s.setStk rest)) v = upd (use s (s.setStk rest) v)) :
    nextOf i (upd s) = upd (nextOf i s) := by
  rw [nextOf_of_exec (hexec _), nextOf_of_exec (hexec _)]
  exact popVal_commutes hstk hflag n huse

section
variable {i : Instr} (hflag : Spares upd .flag) (hmem : (upd s).mem = s.mem) (hdp : (upd s).dp = s.dp)
include hflag hmem hdp

theorem nextOf_gated_commutes {body : State → State} (hexec : ∀ t, exec i t = .next (t.gated body))
    (hbody : s.gate = true → body (upd s) = upd (body s)) : nextOf i (upd s) = upd (nextOf i s) := by
  rw [nextOf_of_exec (hexec _), nextOf_of_exec (hexec _)]
  exact gated_commutes hflag hmem hdp hbody

theorem nextOf_emit_commutes {event : State → Event}
    (hexec : ∀ t, exec i t = .next (t.gated fun u => u.emit (event u)))
    (hemit : s.gate = true → ∀ ev, (upd s).emit ev = upd (s.emit ev)) (hevent : event (upd s) = event s) :
    nextOf i (upd s) = upd (nextOf i s) :=
  nextOf_gated_commutes hflag hmem hdp hexec fun hgate => (congrArg (upd s).emit hevent).trans (hemit hgate _)

end

/-- The table of R45 says all an instruction reads and writes: an update that keeps the elements it reads, spares those
it writes and commutes at the ports may come before it or after it. -/
theorem nextOf_commutes {i : Instr}
    (hr : ∀ e, (readers e i || isFullDump i) = true → (upd s).element e = s.element e)
    (hw : ∀ e, writers e i = true → Spares upd e) (hp : PortsCommute upd i s) :
    nextOf i (upd s) = upd (nextOf i s) := by
  cases i with
  | nop => rfl
  -- the control instructions
  | doom => exact (hw .doom rfl).write rfl
  | concl =>
    have hdoom : (upd s).doom = s.doom := hr .doom rfl
    exact ite_commutes (by rw [hdoom]) ((hw .halted rfl).write rfl) rfl
  | clf => exact (hw .flag rfl).write rfl
  | tgf =>
    have hflag : (upd s).flag = s.flag := hr .flag rfl
    exact (hw .flag rfl).write (congrArg _ hflag)
  | setdp addr => exact ite_commutes Iff.rfl ((hw .dp rfl).write rfl) ((hw .flag rfl).write rfl)
  -- arithmetic, logic, comparison: B, and L but for NOT
  | add | sub | mul =>
    have hb : (upd s).b = s.b := hr .b rfl
    have hl : (upd s).l = s.l := hr .l rfl
    exact writeChecked_commutes (hw .b rfl) (hw .flag rfl) (by rw [hb, hl])
  | div | mod | and | or | xor =>
    have hb : (upd s).b = s.b := hr .b rfl
    have hl : (upd s).l = s.l := hr .l rfl
    exact (hw .b rfl).write (by rw [hb, hl])
  | not =>
    have hb : (upd s).b = s.b := hr .b rfl
    exact (hw .b rfl).write (by rw [hb])
  | cmp =>
    have hb : (upd s).b = s.b := hr .b rfl
    have hl : (upd s).l = s.l := hr .l rfl
    have hwrite : ∀ v, (upd s).setB v = upd (s.setB v) := (hw .b rfl).comm s
    have heq := exec_cmp (upd s)
    rw [hb, hl, hwrite] at heq
    exact (nextOf_of_exec heq).trans (raiseFlagIf_commutes (hw .flag rfl) rfl)
  -- loads and stores
  | ldai => exact (hw .a rfl).write rfl
  | ldbi => exact (hw .b rfl).write rfl
  | ldli => exact (hw .l rfl).write rfl
  | ldnumi => exact (hw .num rfl).write rfl
  | ldam addr =>
    have hmem : (upd s).mem = s.mem := hr .mem rfl
    exact (hw .a rfl).write (by rw [hmem])
  | ldbm addr =>
    have hmem : (upd s).mem = s.mem := hr .mem rfl
    exact (hw .b rfl).write (by rw [hmem])
  | ldlm addr =>
    have hmem : (upd s).mem = s.mem := hr .mem rfl
    exact (hw .l rfl).write (by rw [hmem])
  | stam addr =>
    have ha : (upd s).a = s.a := hr .a rfl
    have hmem : (upd s).mem = s.mem := (hw .mem rfl).keeps s
    exact (hw .mem rfl).write (by rw [ha, hmem])
  | stbm addr =>
    have hb : (upd s).b = s.b := hr .b rfl
    have hmem : (upd s).mem = s.mem := (hw .mem rfl).keeps s
    exact (hw .mem rfl).write (by rw [hb, hmem])
  | stlm addr =>
    have hl : (upd s).l = s.l := hr .l rfl
    have hmem : (upd s).mem = s.mem := (hw .mem rfl).keeps s
    exact (hw .mem rfl).write (by rw [hl, hmem])
  -- the stack
  | salloc n =>
    have hstk : (upd s).stk = s.stk := hr .stk rfl
    exact stkOrFlag_commutes (hw .stk rfl) (hw .flag rfl) (by rw [hstk, hp.cfg])
  | sdealloc n =>
    have hstk : (upd s).stk = s.stk := hr .stk rfl
    exact stkOrFlag_commutes (hw .stk rfl) (hw .flag rfl) (by rw [hstk])
  | pushi | pushw => exact pushVal_commutes (hw .stk rfl) (hw .flag rfl) hp.cfg _ rfl
  | pushm addr =>
    have hmem : (upd s).mem = s.mem := hr .mem rfl
    exact pushVal_commutes (hw .stk rfl) (hw .flag rfl) hp.cfg _ (by rw [hmem])
  | pusha => exact pushVal_commutes (hw .stk rfl) (hw .flag rfl) hp.cfg _ (congrArg BitVec.toNat (hr .a rfl))
  | pushb => exact pushVal_commutes (hw .stk rfl) (hw .flag rfl) hp.cfg _ (congrArg BitVec.toNat (hr .b rfl))
  | pushl => exact pushVal_commutes (hw .stk rfl) (hw .flag rfl) hp.cfg _ (congrArg BitVec.toNat (hr .l rfl))
  | pushf => exact pushVal_commutes (hw .stk rfl) (hw .flag rfl) hp.cfg _ (congrArg BitVec.toNat (hr .f rfl))
  | pushch => exact pushVal_commutes (hw .stk rfl) (hw .flag rfl) hp.cfg _ (congrArg BitVec.toNat (hr .ch rfl))
  | pushnum => exact pushVal_commutes (hw .stk rfl) (hw .flag rfl) hp.cfg _ (congrArg BitVec.toNat (hr .num rfl))
  | pushcnt => exact pushVal_commutes (hw .stk rfl) (hw .flag rfl) hp.cfg _ (congrArg BitVec.toNat (hr .cnt rfl))
  | pushs => exact pushBytes_commutes (hw .stk rfl) (hw .flag rfl) hp.cfg (hr .str rfl)
  | popa => exact nextOf_popVal_commutes exec_popa (hw .stk rfl) (hw .flag rfl) fun _ _ => (hw .a rfl).write rfl
  | popb => exact nextOf_popVal_commutes exec_popb (hw .stk rfl) (hw .flag rfl) fun _ _ => (hw .b rfl).write rfl
  | popl => exact nextOf_popVal_commutes exec_popl (hw .stk rfl) (hw .flag rfl) fun _ _ => (hw .l rfl).write rfl
  | popf => exact nextOf_popVal_commutes exec_popf (hw .stk rfl) (hw .flag rfl) fun _ _ => (hw .f rfl).write rfl
  | popnum => exact nextOf_popVal_commutes exec_popnum (hw .stk rfl) (hw .flag rfl) fun _ _ => (hw .num rfl).write rfl
  | popch =>
    exact nextOf_popVal_commutes exec_popch (hw .stk rfl) (hw .flag rfl) fun _ _ =>
      ite_commutes Iff.rfl ((hw .ch rfl).write rfl) ((hw .flag rfl).write rfl)
  | popm addr =>
    exact nextOf_popVal_commutes (exec_popm · addr) (hw .stk rfl) (hw .flag rfl) fun rest v =>
      (hw .mem rfl).write (congrArg (Memory.write · addr (BitVec.ofNat 8 v)) ((hw .mem rfl).keeps (s.setStk rest)))
  -- the jumps
  | pep => exact popEpIf_commutes (hw .stk rfl) (hw .flag rfl) (hw .ep rfl) rfl
  | pepz | pepp | pepn =>
    have hb : (upd s).b = s.b := hr .b rfl
    exact popEpIf_commutes (hw .stk rfl) (hw .flag rfl) (hw .ep rfl) (by rw [hb])
  | pepf => exact popEpIf_commutes (hw .stk rfl) (hw .flag rfl) (hw .ep rfl) (hr .flag rfl)
  | pepaz => exact popEpIf_commutes (hw .stk rfl) (hw .flag rfl) (hw .ep rfl) (congrArg (· == 0) (hr .a rfl))
  | pepd => exact popEpIf_commutes (hw .stk rfl) (hw .flag rfl) (hw .ep rfl) (hr .dbg rfl)
  -- the array register
  | rclr | rldi => exact (hw .r rfl).write rfl
  | rldm addr =>
    have hmem : (upd s).mem = s.mem := hr .mem rfl
    exact (hw .r rfl).write (by rw [hmem])
  | rstm addr =>
    have hslots : (upd s).r = s.r := hr .r rfl
    have hmem : (upd s).mem = s.mem := (hw .mem rfl).keeps s
    exact (hw .mem rfl).write (by rw [hslots, hmem])
  | rget idx =>
    have hslots : (upd s).r = s.r := hr .r rfl
    exact ite_commutes Iff.rfl ((hw .a rfl).write (congrArg (List.getD · idx.toNat 0) hslots))
      ((hw .flag rfl).write rfl)
  | rset idx => exact setSlot_commutes (hw .r rfl) (hw .flag rfl) idx (hr .a rfl)
  | rseti idx imm => exact setSlot_commutes (hw .r rfl) (hw .flag rfl) idx rfl
  | rcpm idx cnt addr =>
    have hslots : (upd s).r = s.r := hr .r rfl
    have hmem : (upd s).mem = s.mem := (hw .mem rfl).keeps s
    exact ite_commutes Iff.rfl ((hw .flag rfl).write rfl) ((hw .mem rfl).write (by rw [hslots, hmem]))
  -- the string register
  | sclr => exact (hw .str rfl).write rfl
  | sldm addr =>
    have hmem : (upd s).mem = s.mem := hr .mem rfl
    exact strOrFlag_commutes (hw .str rfl) (hw .flag rfl) (by rw [hmem, hp.cfg])
  | sstm addr =>
    have hstr : (upd s).str = s.str := hr .str rfl
    have hmem : (upd s).mem = s.mem := (hw .mem rfl).keeps s
    exact (hw .mem rfl).write (by rw [hstr, hmem])
  | sapp =>
    have ha : (upd s).a = s.a := hr .a rfl
    have hstr : (upd s).str = s.str := (hw .str rfl).keeps s
    exact strOrFlag_commutes (hw .str rfl) (hw .flag rfl) (by rw [ha, hstr, hp.cfg])
  | sappm addr n =>
    have hmem : (upd s).mem = s.mem := hr .mem rfl
    have hstr : (upd s).str = s.str := (hw .str rfl).keeps s
    exact strOrFlag_commutes (hw .str rfl) (hw .flag rfl) (by rw [hmem, hstr, hp.cfg])
  | sget idx =>
    have hstr : (upd s).str = s.str := hr .str rfl
    rcases Nat.lt_or_ge idx.toNat s.str.length with hlt | hle
    · rw [nextOf_of_exec (exec_sget_of_lt hlt), nextOf_of_exec (exec_sget_of_lt (s := upd s) (by rwa [hstr])), hstr]
      exact (hw .a rfl).write rfl
    · rw [nextOf_of_exec (exec_sget_of_le hle), nextOf_of_exec (exec_sget_of_le (s := upd s) (by rwa [hstr]))]
      exact (hw .flag rfl).write rfl
  | sset idx =>
    have ha : (upd s).a = s.a := hr .a rfl
    have hstr : (upd s).str = s.str := hr .str rfl
    exact ite_commutes (by rw [hstr]) ((hw .str rfl).write (by rw [hstr, ha])) ((hw .flag rfl).write rfl)
  | slen =>
    have hstr : (upd s).str = s.str := hr .str rfl
    exact (hw .a rfl).write (by rw [hstr])
  -- the flags struct
  | chset => exact (hw .choice rfl).write rfl
  | chgeta => exact (hw .a rfl).write (congrArg choiceToByte (hr .choice rfl))
  | cntinc | cntdec =>
    have hcnt : (upd s).cnt = s.cnt := hr .cnt rfl
    exact ite_commutes (by rw [hcnt]) ((hw .cnt rfl).write (by rw [hcnt])) rfl
  | latset => exact (hw .latch rfl).write rfl
  | latclr =>
    have hlatch : (upd s).latch = s.latch := hr .latch rfl
    exact ite_commutes (by rw [hlatch]) ((hw .flag rfl).write rfl) rfl
  -- the gated instructions
  | getch => exact nextOf_gated_commutes (hw .flag rfl) (hr .mem rfl) (hr .dp rfl) exec_getch (hp.takeKey rfl)
  | getln => exact nextOf_gated_commutes (hw .flag rfl) (hr .mem rfl) (hr .dp rfl) exec_getln (hp.takeLine rfl)
  | tgdbg =>
    exact nextOf_gated_commutes (hw .flag rfl) (hr .mem rfl) (hr .dp rfl) exec_tgdbg fun _ =>
      (hw .dbg rfl).write (congrArg not (hr .dbg rfl))
  | wrch =>
    exact nextOf_emit_commutes (hw .flag rfl) (hr .mem rfl) (hr .dp rfl) exec_wrch (hp.emit rfl)
      (congrArg₂ Event.outChar (pfx_congr hp.cfg (hr .num rfl)) (hr .ch rfl))
  | wrlns =>
    exact nextOf_emit_commutes (hw .flag rfl) (hr .mem rfl) (hr .dp rfl) exec_wrlns (hp.emit rfl)
      (congrArg₂ Event.outLine (pfx_congr hp.cfg (hr .num rfl)) (hr .str rfl))
  | wrlnm addr =>
    have hmem : (upd s).mem = s.mem := hr .mem rfl
    exact nextOf_emit_commutes (hw .flag rfl) hmem (hr .dp rfl) (exec_wrlnm · addr) (hp.emit rfl)
      (by rw [pfx_congr hp.cfg (hr .num rfl), hmem])
  | dbgmem start stop =>
    have hmem : (upd s).mem = s.mem := hr .mem rfl
    exact nextOf_emit_commutes (hw .flag rfl) hmem (hr .dp rfl) (exec_dbgmem · start stop) (hp.emit rfl)
      (by rw [pfx_congr hp.cfg (hr .num rfl), hmem])
  | dbgstk start stop =>
    have hstk : (upd s).stk = s.stk := hr .stk rfl
    exact nextOf_emit_commutes (hw .flag rfl) (hr .mem rfl) (hr .dp rfl) (exec_dbgstk · start stop) (hp.emit rfl)
      (by rw [pfx_congr hp.cfg (hr .num rfl), hstk])
  | dbgst =>
    have harch : (upd s).toArchState = s.toArchState := ArchState.eq_of_element_eq fun e => hr e (Bool.or_true _)
    exact nextOf_emit_commutes (hw .flag rfl) (hr .mem rfl) (hr .dp rfl) exec_dbgst (hp.emit rfl)
      (congrArg₂ Event.dumpFull (pfx_congr hp.cfg (hr .num rfl)) harch)
  | dbgstc =>
    have harch : (upd s).toArchState = s.toArchState := ArchState.eq_of_element_eq fun e => hr e (Bool.or_true _)
    exact nextOf_emit_commutes (hw .flag rfl) (hr .mem rfl) (hr .dp rfl) exec_dbgstc (hp.emit rfl)
      (congrArg₂ Event.dumpCompact (pfx_congr hp.cfg (hr .num rfl)) (compactSnapshot_congr harch))

/-- An update without effect on the state before the instruction has none on the state after it. -/
theorem nextOf_fixed {i : Instr} (hupd : upd s = s) (hw : ∀ e, writers e i = true → Spares upd e)
    (hp : PortsCommute upd i s) : nextOf i s = upd (nextOf i s) := by
  have hcomm := nextOf_commutes (fun e _ => by rw [hupd]) hw hp
  rwa [hupd] at hcomm

end

/-! #### One element -/

theorem ne_of_writers {e e' : Element} {i : Instr} (h : writers e i = false) (h' : writers e' i = true) : e' ≠ e := by
  rintro rfl
  exact absurd (h.symm.trans h') Bool.false_ne_true

theorem portsCommute_withElement {e : Element} {i : Instr} (h : writers e i = false) (v : e.Val) (s : State) :
    PortsCommute (·.withElement e v) i s where
  cfg := rfl
  emit _ _ _ := rfl
  takeKey hi _ := by
    subst hi
    exact takeKey_commutes (spares_withElement (ne_of_writers h rfl) v) (spares_withElement (ne_of_writers h rfl) v) rfl
      fun _ => rfl
  takeLine hi _ := by
    subst hi
    exact takeLine_commutes (spares_withElement (ne_of_writers h rfl) v) (spares_withElement (ne_of_writers h rfl) v)
      (fun _ => id) rfl rfl (fun _ => rfl) fun _ => rfl

/-- An instruction that is no writer of an element leaves it as it is: writing it back changes nothing. -/
theorem element_nextOf {e : Element} {i : Instr} (h : writers e i = false) (s : State) :
    (nextOf i s).element e = s.element e := by
  have hback := nextOf_fixed (withElement_element s e)
    (fun e' he' => spares_withElement (ne_of_writers h he') (s.element e)) (portsCommute_withElement h _ s)
  calc (nextOf i s).element e = ((nextOf i s).withElement e (s.element e)).element e := congrArg (·.element e) hback
    _ = s.element e := element_withElement_self _ e _

/-- Every row of R45. -/
theorem onlyTouchedBy (e : Element) :
    OnlyTouchedBy (fun s => s.element e) (fun s v => s.withElement e v) (writers e) (readers e) := by
  intro i s t hrun hw
  obtain rfl := nextOf_of_exec hrun
  refine ⟨element_nextOf hw s, fun hr hdump v => (exec_eq_next _ _).trans (congrArg _ ?_)⟩
  refine nextOf_commutes (fun e' he' => element_withElement_of_ne s ?_ v)
    (fun e' he' => spares_withElement (ne_of_writers hw he') v) (portsCommute_withElement hw v s)
  rintro rfl
  rw [hr, hdump] at he'
  exact absurd he' Bool.false_ne_true

/-- Settles O19: one theorem for the 20 elements. -/
theorem elementsTouchedByTable : Obligations.ElementsTouchedByTable :=
  ⟨onlyTouchedBy .a, onlyTouchedBy .b, onlyTouchedBy .l, onlyTouchedBy .f, onlyTouchedBy .ch, onlyTouchedBy .num,
    onlyTouchedBy .r, onlyTouchedBy .str, onlyTouchedBy .stk, onlyTouchedBy .mem, onlyTouchedBy .ep, onlyTouchedBy .dp,
    onlyTouchedBy .flag, onlyTouchedBy .dbg, onlyTouchedBy .halted, onlyTouchedBy .fault, onlyTouchedBy .choice,
    onlyTouchedBy .cnt, onlyTouchedBy .doom, onlyTouchedBy .latch⟩

/-! ### The ports and the parameters (R53, R54, R56) -/

/-- An update of the ports or the parameters: none of the 20 elements has a part in it. -/
structure PortUpdate (upd : State → State) : Prop where
  keeps : ∀ s, (upd s).toArchState = s.toArchState
  comm : ∀ s x, { upd s with toArchState := x } = upd { s with toArchState := x }

theorem PortUpdate.spares {upd : State → State} (h : PortUpdate upd) (e : Element) : Spares upd e where
  keeps s := congrArg (·.element e) (h.keeps s)
  comm s v := by
    rw [State.withElement, h.keeps s]
    exact h.comm s (s.toArchState.withElement e v)

/-- A step does the same after an update of the ports as before it. -/
theorem step_commutes {upd : State → State} {s t : State} (hupd : PortUpdate upd) (h : step s = .next t)
    (hp : ∀ i n, decodeAt s.mem s.ep = .ok (i, n) → PortsCommute upd i (s.advance n)) :
    step (upd s) = .next (upd t) := by
  have hhalted' : (upd s).halted = s.halted := (hupd.spares .halted).keeps s
  have hfault' : (upd s).fault = s.fault := (hupd.spares .fault).keeps s
  have hmem : (upd s).mem = s.mem := (hupd.spares .mem).keeps s
  have hep : (upd s).ep = s.ep := (hupd.spares .ep).keeps s
  obtain ⟨hhalted, hfault, hcases⟩ := step_next_cases h
  have hrunning : (upd s).Running := ⟨hhalted'.trans hhalted, hfault'.trans hfault⟩
  have hfail : ∀ cause byte, (upd s).takeFault cause byte = upd (s.takeFault cause byte) := fun cause byte =>
    (hupd.spares .fault).write (congrArg (fun addr => some (FaultRecord.mk cause byte addr)) hep)
  rcases hcases with ⟨i, n, hdec, hexec⟩ | ⟨op, hdec, rfl⟩ | ⟨b, hdec, rfl⟩
  · have hadvance : (upd s).advance n = upd (s.advance n) :=
      (hupd.spares .ep).write (congrArg (· + BitVec.ofNat 16 n) hep)
    have hnext : nextOf i (upd (s.advance n)) = upd (nextOf i (s.advance n)) :=
      nextOf_commutes (fun e _ => (hupd.spares e).keeps _) (fun e _ => hupd.spares e) (hp i n hdec)
    rw [step_of_decodeAt_ok hrunning (by rw [hmem, hep, hdec]), hadvance, exec_eq_next, hnext, nextOf_of_exec hexec]
  · rw [step_of_invalidOpcode hrunning (by rw [hmem, hep, hdec]), hfail]
  · rw [step_of_invalidChoice hrunning (by rw [hmem, hep, hdec]), hfail]

/-- The past trace exchanged: `before` in place of the first `n` events. -/
def replacePast (n : Nat) (before : List Event) (s : State) : State := s.setTrace (before ++ s.trace.drop n)

theorem portUpdate_replacePast (n : Nat) (before : List Event) : PortUpdate (replacePast n before) :=
  ⟨fun _ => rfl, fun _ _ => rfl⟩

theorem portUpdate_setTrace (trace : List Event) : PortUpdate (·.setTrace trace) := ⟨fun _ => rfl, fun _ _ => rfl⟩

theorem portUpdate_setKeys (keys : List Word32) : PortUpdate (·.setKeys keys) := ⟨fun _ => rfl, fun _ _ => rfl⟩

theorem portUpdate_answerChar (c : Word32) : PortUpdate (·.answerChar c) := ⟨fun _ => rfl, fun _ _ => rfl⟩

theorem portUpdate_answerLine (ln : List Byte) : PortUpdate (·.answerLine ln) := ⟨fun _ => rfl, fun _ _ => rfl⟩

/-- The parameters exchanged. -/
def withCfg (p : Params) (s : State) : State := { s with cfg := p }

theorem portUpdate_withCfg (p : Params) : PortUpdate (withCfg p) := ⟨fun _ => rfl, fun _ _ => rfl⟩

section
variable (s : State)

theorem replacePast_length (before : List Event) :
    replacePast s.trace.length before s = { s with trace := before } := by
  rw [replacePast, List.drop_length, List.append_nil]
  rfl

theorem replacePast_emit (before : List Event) (ev : Event) :
    (replacePast s.trace.length before s).emit ev = replacePast s.trace.length before (s.emit ev) := by
  rw [replacePast_length, replacePast, emit_eq, emit_eq, setTrace_trace, List.drop_left]
  rfl

theorem portsCommute_replacePast (before : List Event) (i : Instr) :
    PortsCommute (replacePast s.trace.length before) i s :=
  have hspares := (portUpdate_replacePast s.trace.length before).spares
  { cfg := rfl
    emit := fun _ _ => replacePast_emit s before
    takeKey := fun _ _ => takeKey_commutes (hspares .ch) (hspares .ep) rfl fun _ => rfl
    takeLine := fun _ _ =>
      takeLine_commutes (hspares .str) (hspares .flag) (fun _ => id) rfl rfl (fun _ => rfl) fun _ => rfl }

/-- The parameters never change (R56): writing them back after the instruction changes nothing. -/
theorem cfg_nextOf (i : Instr) : (nextOf i s).cfg = s.cfg := by
  have hspares := (portUpdate_withCfg s.cfg).spares
  have hback : nextOf i s = withCfg s.cfg (nextOf i s) := nextOf_fixed rfl (fun e _ => hspares e)
    { cfg := rfl
      emit := fun _ _ _ => rfl
      takeKey := fun _ _ => takeKey_commutes (hspares .ch) (hspares .ep) rfl fun _ => rfl
      takeLine := fun _ _ =>
        takeLine_commutes (hspares .str) (hspares .flag) (fun _ _ => rfl) rfl rfl (fun _ => rfl) fun _ => rfl }
  exact (congrArg State.cfg hback).trans rfl

/-- GETCH alone consumes an answer to `ReqChar`. -/
theorem keys_nextOf {i : Instr} (hi : i ≠ .getch) : (nextOf i s).keys = s.keys := by
  have hspares := (portUpdate_setKeys s.keys).spares
  have hback : nextOf i s = (nextOf i s).setKeys s.keys := nextOf_fixed rfl (fun e _ => hspares e)
    { cfg := rfl
      emit := fun _ _ _ => rfl
      takeKey := fun hgetch => absurd hgetch hi
      takeLine := fun _ _ =>
        takeLine_commutes (hspares .str) (hspares .flag) (fun _ => id) rfl rfl (fun _ => rfl) fun _ => rfl }
  exact (congrArg State.keys hback).trans rfl

/-- Only an emitting instruction with the gate open changes the trace. -/
theorem trace_nextOf {i : Instr} (hi : ¬(isEmitting i = true ∧ s.gate = true)) :
    (nextOf i s).trace = s.trace := by
  have hspares := (portUpdate_setTrace s.trace).spares
  have hback : nextOf i s = (nextOf i s).setTrace s.trace := nextOf_fixed rfl (fun e _ => hspares e)
    { cfg := rfl
      emit := fun hemits hopen => absurd ⟨hemits, hopen⟩ hi
      takeKey := fun _ _ => takeKey_commutes (hspares .ch) (hspares .ep) rfl fun _ => rfl
      takeLine := fun _ _ =>
        takeLine_commutes (hspares .str) (hspares .flag) (fun _ => id) rfl rfl (fun _ => rfl) fun _ => rfl }
  exact (congrArg State.trace hback).trans rfl

end

/-- Behind every emitting instruction is one event, and nothing else. -/
theorem exists_event_of_isEmitting {i : Instr} (h : isEmitting i = true) :
    ∃ event : State → Event, ∀ s, exec i s = .next (s.gated fun t => t.emit (event t)) := by
  cases i with
  | wrch => exact ⟨_, exec_wrch⟩
  | wrlns => exact ⟨_, exec_wrlns⟩
  | wrlnm addr => exact ⟨_, fun s => exec_wrlnm s addr⟩
  | dbgst => exact ⟨_, exec_dbgst⟩
  | dbgstc => exact ⟨_, exec_dbgstc⟩
  | dbgmem start stop => exact ⟨_, fun s => exec_dbgmem s start stop⟩
  | dbgstk start stop => exact ⟨_, fun s => exec_dbgstk s start stop⟩
  | _ => cases h

/-- What an instruction does to the trace: nothing, or one event appended through an open gate (R53). -/
theorem trace_nextOf_cases (i : Instr) (s : State) :
    (nextOf i s).trace = s.trace ∨
      (isEmitting i = true ∧ s.gate = true ∧ ∃ ev, (nextOf i s).trace = s.trace ++ [ev]) := by
  by_cases hi : isEmitting i = true ∧ s.gate = true
  · obtain ⟨hemits, hopen⟩ := hi
    obtain ⟨event, hexec⟩ := exists_event_of_isEmitting hemits
    rw [nextOf_of_exec (hexec s), gated_of_open _ hopen]
    exact .inr ⟨hemits, hopen, event s, rfl⟩
  · exact .inl (trace_nextOf s hi)

/-- `trace_nextOf_cases` for a step; a step that takes the fatal fault emits nothing (R292). -/
theorem trace_step_cases {s t : State} (h : step s = .next t) :
    t.trace = s.trace ∨
      ((∃ i n, decodeAt s.mem s.ep = .ok (i, n) ∧ isEmitting i = true ∧ GateOpen s) ∧
        ∃ ev, t.trace = s.trace ++ [ev]) := by
  obtain ⟨-, -, ⟨i, n, hdec, hexec⟩ | ⟨op, -, rfl⟩ | ⟨b, -, rfl⟩⟩ := step_next_cases h
  · obtain rfl := nextOf_of_exec hexec
    rcases trace_nextOf_cases i (s.advance n) with htrace | ⟨hemits, hopen, htrace⟩
    · exact .inl htrace
    · exact .inr ⟨⟨i, n, hdec, hemits, (gate_iff s).mp hopen⟩, htrace⟩
  · exact .inl rfl
  · exact .inl rfl

theorem cfg_step {s t : State} (h : step s = .next t) : t.cfg = s.cfg := by
  obtain ⟨-, -, ⟨i, n, -, hexec⟩ | ⟨op, -, rfl⟩ | ⟨b, -, rfl⟩⟩ := step_next_cases h
  · obtain rfl := nextOf_of_exec hexec
    exact cfg_nextOf _ i
  · rfl
  · rfl

/-- With another past trace the step appends the same events. -/
theorem step_with_trace {s t : State} (h : step s = .next t) (before : List Event) :
    step { s with trace := before } = .next { t with trace := before ++ t.trace.drop s.trace.length } := by
  have hstep := step_commutes (portUpdate_replacePast s.trace.length before) h fun i n _ =>
    portsCommute_replacePast (s.advance n) before i
  rwa [replacePast_length] at hstep

/-- Settles O20: what a step appends does not depend on the trace before it, and is an emission or nothing. -/
theorem traceIsOutputOnly : Obligations.TraceIsOutputOnly := by
  intro s t h
  refine ⟨cfg_step h, ?_⟩
  rcases trace_step_cases h with htrace | ⟨hemitter, ev, htrace⟩
  · refine ⟨[], by rw [htrace, List.append_nil], by simp, fun hne => absurd rfl hne, fun before => ?_⟩
    rw [step_with_trace h, htrace, List.drop_length]
  · refine ⟨[ev], htrace, by simp, fun _ => hemitter, fun before => ?_⟩
    rw [step_with_trace h, htrace, List.drop_left]

/-- An answer listed behind others is not the one GETCH consumes. -/
theorem takeKey_answerChar {s : State} (h : s.keys ≠ []) (c : Word32) :
    (s.answerChar c).takeKey 1 State.setCh = (s.takeKey 1 State.setCh).answerChar c := by
  obtain ⟨key, rest, hkeys⟩ := List.exists_cons_of_ne_nil h
  have hkeys' : (s.answerChar c).keys = key :: (rest ++ [c]) := congrArg (· ++ [c]) hkeys
  rw [takeKey_of_keys_eq_cons 1 _ hkeys, takeKey_of_keys_eq_cons 1 _ hkeys']
  rfl

theorem takeLine_answerLine {s : State} (h : s.lines ≠ []) (ln : List Byte) :
    (s.answerLine ln).takeLine State.useLine = (s.takeLine State.useLine).answerLine ln := by
  obtain ⟨line, rest, hlines⟩ := List.exists_cons_of_ne_nil h
  have hlines' : (s.answerLine ln).lines = line :: (rest ++ [ln]) := congrArg (· ++ [ln]) hlines
  have hspares := (portUpdate_answerLine ln).spares
  rw [takeLine_of_lines_eq_cons _ hlines, takeLine_of_lines_eq_cons _ hlines']
  exact useLine_commutes (s := s.setLines rest) (hspares .str) (hspares .flag) rfl line

theorem portsCommute_answerChar {i : Instr} {s : State} (h : i = .getch → s.gate = true → s.keys ≠ []) (c : Word32) :
    PortsCommute (·.answerChar c) i s :=
  have hspares := (portUpdate_answerChar c).spares
  { cfg := rfl
    emit := fun _ _ _ => rfl
    takeKey := fun hi hopen => takeKey_answerChar (h hi hopen) c
    takeLine := fun _ _ =>
      takeLine_commutes (hspares .str) (hspares .flag) (fun _ => id) rfl rfl (fun _ => rfl) fun _ => rfl }

theorem portsCommute_answerLine {i : Instr} {s : State} (h : i = .getln → s.gate = true → s.lines ≠ [])
    (ln : List Byte) : PortsCommute (·.answerLine ln) i s :=
  have hspares := (portUpdate_answerLine ln).spares
  { cfg := rfl
    emit := fun _ _ _ => rfl
    takeKey := fun _ _ => takeKey_commutes (hspares .ch) (hspares .ep) rfl fun _ => rfl
    takeLine := fun hi hopen => takeLine_answerLine (h hi hopen) ln }

/-- Settles O57: an answer is seen by no step but the one that asks for it and finds no other listed. -/
theorem answersMayComeEarly : Obligations.AnswersMayComeEarly := by
  refine fun s t h => ⟨fun c hholding => ?char, fun ln hasks => ?line⟩
  case char =>
    refine step_commutes (portUpdate_answerChar c) h fun i n hdec => portsCommute_answerChar ?_ c
    rintro rfl hopen hkeys
    obtain rfl := decodeAt_length hdec
    exact hholding ⟨exists_step_next_iff.mp ⟨t, h⟩, hdec, hopen, hkeys⟩
  case line =>
    refine step_commutes (portUpdate_answerLine ln) h fun i n hdec => portsCommute_answerLine ?_ ln
    rintro rfl hopen hlines
    obtain rfl := decodeAt_length hdec
    exact hasks ⟨hdec, hopen, hlines⟩

/-! ### The elements that only go one way (R33, R35, R36, R39, R40) -/

/-- DOOM writes DOOM alone, and only raises it. -/
theorem doom_nextOf {s : State} (h : s.doom = true) (i : Instr) : (nextOf i s).doom = true := by
  cases hw : writers .doom i with
  | false => exact (element_nextOf hw s).trans h
  | true =>
    cases i with
    | doom => rfl
    | _ => cases hw

theorem latch_nextOf {s : State} (h : s.latch = true) (i : Instr) : (nextOf i s).latch = true := by
  cases hw : writers .latch i with
  | false => exact (element_nextOf hw s).trans h
  | true =>
    cases i with
    | latset => rfl
    | _ => cases hw

/-- Only CLF and TGF take FLAG from 1 to 0 (R33): any other instruction keeps it where it was 1 (R296). -/
theorem eq_clf_or_tgf_of_flag_nextOf {s : State} {i : Instr} (h : s.flag = true) (h' : (nextOf i s).flag = false) :
    i = .clf ∨ i = .tgf := by
  by_contra hne
  obtain ⟨hclf, htgf⟩ := not_or.mp hne
  have hkept := (flagSetExactlyByItsCauses i s _ (exec_eq_next i s)).mpr (.inr ⟨h, hclf, htgf⟩)
  exact absurd (h'.symm.trans hkept) Bool.false_ne_true

/-- Settles O18: a Halted or Faulted state has no step, and a step from Running is an instruction or the fault, which
writes FAULT alone. -/
theorem oneWayElements : Obligations.OneWayElements := by
  intro s t h
  obtain ⟨hhalted, hfault, hcases⟩ := step_next_cases h
  refine ⟨by simp [hhalted], by simp [hfault], ?_⟩
  rcases hcases with ⟨i, n, hdec, hexec⟩ | ⟨op, -, rfl⟩ | ⟨b, -, rfl⟩
  · obtain rfl := nextOf_of_exec hexec
    refine ⟨fun hdoom => doom_nextOf (s := s.advance n) hdoom i, fun hlatch => latch_nextOf (s := s.advance n) hlatch i,
      fun hset hcleared => ?_⟩
    rcases eq_clf_or_tgf_of_flag_nextOf (s := s.advance n) hset hcleared with rfl | rfl
    · exact .inl ⟨n, hdec⟩
    · exact .inr ⟨n, hdec⟩
  · exact ⟨id, id, fun hset hcleared => absurd (hset.symm.trans hcleared) Bool.false_ne_true.symm⟩
  · exact ⟨id, id, fun hset hcleared => absurd (hset.symm.trans hcleared) Bool.false_ne_true.symm⟩

/-! ### The invariant (R25, R27, R29 to R31, R113, R292)

Each clause speaks of an element or two, so of an instruction only the writers of these are to be looked at. -/

section
variable {s : State}

/-- Memory stays canonical: every store is a sequence of writes of single bytes. -/
theorem nextOf_memWf (h : s.mem.wf) (i : Instr) : (nextOf i s).mem.wf := by
  cases hw : writers .mem i with
  | false =>
    have hmem : (nextOf i s).mem = s.mem := element_nextOf hw s
    rwa [hmem]
  | true =>
    cases i with
    | stam addr => exact Memory.wf_write h addr s.a
    | stbm addr => exact Memory.wf_memWrite h addr 2 s.b.toNat
    | stlm addr => exact Memory.wf_memWrite h addr 2 s.l.toNat
    | rstm addr => exact Memory.wf_memWriteBytes h addr s.r
    | sstm addr => exact Memory.wf_memWriteBytes h addr (s.str ++ [0])
    | popm addr =>
      rw [nextOf_of_exec (exec_popm s addr)]
      rcases popVal_cases s 1 fun t v => t.setMem (t.mem.write addr (BitVec.ofNat 8 v)) with ⟨-, heq⟩ | ⟨-, heq⟩ <;>
        rw [heq]
      · exact h
      · exact Memory.wf_write h addr _
    | rcpm idx cnt addr =>
      rcases Nat.lt_or_ge slotCount (idx.toNat + cnt.toNat) with hlong | hfits
      · rw [nextOf_of_exec (exec_rcpm_of_lt addr hlong)]
        exact h
      · rw [nextOf_of_exec (exec_rcpm_of_le addr hfits)]
        exact Memory.wf_memWriteBytes h addr _
    | _ => cases hw

theorem length_r_setSlot (idx v : Byte) : (s.setSlot idx v).r.length = s.r.length := by
  rcases setSlot_cases s idx v with ⟨-, heq⟩ | ⟨-, heq⟩ <;> rw [heq]
  · exact List.length_set
  · rfl

/-- R29: "The length never changes." The decoder gives RLDI 37 bytes. -/
theorem nextOf_slots (h : s.r.length = 37) {i : Instr} (hi : i.wf = true) : (nextOf i s).r.length = 37 := by
  cases hw : writers .r i with
  | false =>
    have hr : (nextOf i s).r = s.r := element_nextOf hw s
    rwa [hr]
  | true =>
    cases i with
    | rclr => exact List.length_replicate
    | rldi v => exact beq_iff_eq.mp hi
    | rldm addr => exact length_memBytes s.mem addr 37
    | rset idx => exact (length_r_setSlot idx s.a).trans h
    | rseti idx imm => exact (length_r_setSlot idx imm).trans h
    | _ => cases hw

theorem length_str_strAppend_le (h : s.str.length ≤ s.cfg.strCap.val) (bs : List Byte) :
    (s.strOrFlag (strAppend s.cfg.strCap.val s.str bs)).str.length ≤ s.cfg.strCap.val := by
  rcases strAppend_cases s.cfg.strCap.val s.str bs with ⟨hfits, heq⟩ | ⟨-, heq⟩ <;> rw [heq]
  · exact List.length_append.trans_le hfits
  · exact h

theorem length_str_useLine_le {t : State} (h : t.str.length ≤ t.cfg.strCap.val) (ln : List Byte) :
    (t.useLine ln).str.length ≤ t.cfg.strCap.val := by
  rcases Nat.lt_or_ge t.cfg.strCap.val ln.length with hlong | hfits
  · rw [useLine_of_long hlong]
    exact h
  · rw [useLine_of_fits hfits]
    exact hfits

/-- R30: every write of S is checked against STR_CAP, or keeps its length. -/
theorem nextOf_strFits (h : s.str.length ≤ s.cfg.strCap.val) (i : Instr) :
    (nextOf i s).str.length ≤ s.cfg.strCap.val := by
  cases hw : writers .str i with
  | false =>
    have hstr : (nextOf i s).str = s.str := element_nextOf hw s
    rwa [hstr]
  | true =>
    cases i with
    | sclr => exact Nat.zero_le _
    | sapp => exact length_str_strAppend_le h _
    | sappm addr n => exact length_str_strAppend_le h _
    | sldm addr =>
      rw [nextOf_of_exec (exec_sldm s addr)]
      cases hscan : firstZero s.mem addr (s.cfg.strCap.val + 1) with
      | none => exact h
      | some n =>
        obtain ⟨hn, -, -⟩ := (firstZero_eq_some_iff _ _ _ _).mp hscan
        exact (length_memBytes s.mem addr n).trans_le (Nat.le_of_lt_succ hn)
    | sset idx =>
      rcases Nat.lt_or_ge idx.toNat s.str.length with hlt | hle
      · rw [nextOf_of_exec (exec_sset_of_lt hlt)]
        exact List.length_set.trans_le h
      · rw [nextOf_of_exec (exec_sset_of_le hle)]
        exact h
    | getln =>
      rw [nextOf_of_exec (exec_getln s)]
      rcases gated_cases s fun t => t.takeLine State.useLine with ⟨-, heq⟩ | ⟨-, heq⟩ <;> rw [heq]
      · rcases takeLine_cases s State.useLine with ⟨-, heq'⟩ | ⟨ln, rest, -, heq'⟩ <;> rw [heq']
        · exact length_str_useLine_le (t := s.setLineReqs (s.lineReqs + 1)) h _
        · exact length_str_useLine_le (t := s.setLines rest) h ln
      · exact h
    | _ => cases hw

theorem length_stk_pushBytes_le (h : s.stk.length ≤ s.cfg.stackCap.val) (bs : List Byte) :
    (s.pushBytes bs).stk.length ≤ s.cfg.stackCap.val := by
  rcases pushBytes_cases s bs with ⟨hfits, heq⟩ | ⟨-, heq⟩ <;> rw [heq]
  · exact List.length_append.trans_le hfits
  · exact h

/-- A pop leaves the stack no longer, whatever it does with the value but push. -/
theorem length_stk_popVal_le {n : Nat} {use : State → Nat → State}
    (huse : ∀ rest v, rest.length ≤ s.stk.length → (use (s.setStk rest) v).stk.length ≤ s.stk.length) :
    (s.popVal n use).stk.length ≤ s.stk.length := by
  rcases popVal_cases s n use with ⟨-, heq⟩ | ⟨-, heq⟩ <;> rw [heq]
  · exact le_rfl
  · exact huse _ _ (List.take_sublist _ _).length_le

theorem length_stk_popEpIf_le (cond : Bool) : (s.popEpIf cond).stk.length ≤ s.stk.length := by
  cases cond with
  | false => exact le_rfl
  | true =>
    rw [popEpIf_true]
    exact length_stk_popVal_le fun _ _ hrest => hrest

theorem length_stk_stkDealloc_le (n : Nat) : (s.stkOrFlag (stkDealloc s.stk n)).stk.length ≤ s.stk.length := by
  rcases Nat.lt_or_ge s.stk.length n with hshort | henough
  · rw [stkDealloc_of_short hshort]
    exact le_rfl
  · rw [stkDealloc_of_enough henough]
    exact (List.take_sublist _ _).length_le

/-- R31: a push is checked against STACK_CAP, and everything else leaves the stack no longer. -/
theorem nextOf_stkFits (h : s.stk.length ≤ s.cfg.stackCap.val) (i : Instr) :
    (nextOf i s).stk.length ≤ s.cfg.stackCap.val := by
  cases hw : writers .stk i with
  | false =>
    have hstk : (nextOf i s).stk = s.stk := element_nextOf hw s
    rwa [hstk]
  | true =>
    cases i with
    | salloc n =>
      rw [nextOf_of_exec (exec_salloc s n)]
      exact length_stk_pushBytes_le h _
    | pushi | pushw | pushm | pusha | pushb | pushl | pushf | pushch | pushnum | pushs | pushcnt =>
      exact length_stk_pushBytes_le h _
    | sdealloc n => exact (length_stk_stkDealloc_le n.toNat).trans h
    | popm | popa | popb | popl | popf | popnum => exact (length_stk_popVal_le fun _ _ hrest => hrest).trans h
    | popch =>
      refine (length_stk_popVal_le fun _ _ hrest => ?_).trans h
      split
      · exact hrest
      · exact le_rfl
    | pep | pepz | pepp | pepn | pepf | pepaz | pepd => exact (length_stk_popEpIf_le _).trans h
    | _ => cases hw

/-- R27: POPCH tests what it writes; GETCH writes an answer of the host, whose duty it is (R54). -/
theorem nextOf_chScalar (h : isScalar s.ch = true) (hkeys : ∀ c ∈ s.keys, isScalar c = true) (i : Instr) :
    isScalar (nextOf i s).ch = true := by
  cases hw : writers .ch i with
  | false =>
    have hch : (nextOf i s).ch = s.ch := element_nextOf hw s
    rwa [hch]
  | true =>
    cases i with
    | popch =>
      rw [nextOf_of_exec (exec_popch s)]
      rcases popVal_cases s 4 fun t v =>
        if isScalar (BitVec.ofNat 32 v) then t.setCh (BitVec.ofNat 32 v) else s.setFlag true with
        ⟨-, heq⟩ | ⟨-, heq⟩ <;> rw [heq]
      · exact h
      · split
        next hscalar => exact hscalar
        next => exact h
    | getch =>
      rw [nextOf_of_exec (exec_getch s)]
      rcases gated_cases s fun t => t.takeKey 1 State.setCh with ⟨-, heq⟩ | ⟨-, heq⟩ <;> rw [heq]
      · rcases takeKey_cases s 1 State.setCh with ⟨-, heq'⟩ | ⟨c, rest, hlisted, heq'⟩ <;> rw [heq']
        · exact h
        · exact hkeys c (hlisted ▸ List.mem_cons_self)
      · exact h
    | _ => cases hw

/-- R25: SETDP writes no address but an allow-listed one. -/
theorem nextOf_dpLegal (h : s.dp = 0 ∨ allowed s.dp = true) (i : Instr) :
    (nextOf i s).dp = 0 ∨ allowed (nextOf i s).dp = true := by
  cases hw : writers .dp i with
  | false =>
    have hdp : (nextOf i s).dp = s.dp := element_nextOf hw s
    rwa [hdp]
  | true =>
    cases i with
    | setdp addr =>
      by_cases hallowed : allowed addr = true
      · rw [nextOf_of_exec (exec_setdp_of_allowed hallowed)]
        exact .inr hallowed
      · rw [nextOf_of_exec (exec_setdp_of_not_allowed hallowed)]
        exact h
    | _ => cases hw

/-- An instruction lists no answer: GETCH takes the first, every other leaves them. -/
theorem keys_nextOf_subset (i : Instr) : (nextOf i s).keys ⊆ s.keys := by
  by_cases hi : i = .getch
  · subst hi
    rw [nextOf_of_exec (exec_getch s)]
    rcases gated_cases s fun t => t.takeKey 1 State.setCh with ⟨-, heq⟩ | ⟨-, heq⟩ <;> rw [heq]
    · rcases takeKey_cases s 1 State.setCh with ⟨-, heq'⟩ | ⟨c, rest, hlisted, heq'⟩ <;> rw [heq']
      · exact List.Subset.refl _
      · rw [hlisted]
        exact List.subset_cons_self c rest
    · exact List.Subset.refl _
  · rw [keys_nextOf s hi]
    exact List.Subset.refl _

/-- R290: what a failed decode answers is what stands in memory at EP. -/
theorem backed_of_invalidOpcode {op : Byte} (h : decodeAt s.mem s.ep = .error (.invalidOpcode op)) :
    FaultRecord.Backed s.mem ⟨.invalidOpcode, op, s.ep⟩ := by
  obtain ⟨hopcode, -, -⟩ := decodeFailsExactly s.mem s.ep
  exact (hopcode op).mp h

theorem backed_of_invalidChoice {b : Byte} (h : decodeAt s.mem s.ep = .error (.invalidChoice b)) :
    FaultRecord.Backed s.mem ⟨.invalidChoice, b, s.ep⟩ := by
  obtain ⟨-, hchoice, -⟩ := decodeFailsExactly s.mem s.ep
  exact (hchoice b).mp h

theorem takeFault_inv (hs : s.Inv) (hhalted : s.halted = false) {cause : FaultCause} {byte : Byte}
    (hbacked : FaultRecord.Backed s.mem ⟨cause, byte, s.ep⟩) : (s.takeFault cause byte).Inv where
  memWf := hs.memWf
  slots := hs.slots
  strFits := hs.strFits
  stkFits := hs.stkFits
  chScalar := hs.chScalar
  dpLegal := hs.dpLegal
  haltedDoomed := hs.haltedDoomed
  exclusive h := absurd (hhalted.symm.trans h) Bool.false_ne_true
  faultAtEp := by
    rintro _ ⟨⟩
    exact ⟨rfl, hbacked⟩
  keysScalar := hs.keysScalar

/-- A step that runs an instruction: Halted comes from CONCL with DOOM = 1 alone, and FAULT is left alone. -/
theorem exec_step_inv {t : State} {i : Instr} {n : Nat} (hs : s.Inv) (hstep : step s = .next t)
    (hdec : decodeAt s.mem s.ep = .ok (i, n)) (ht : nextOf i (s.advance n) = t) : t.Inv := by
  obtain ⟨hwf, -, -⟩ := decodeAt_eq_ok_iff.mp hdec
  obtain ⟨-, hfault, -⟩ := step_next_cases hstep
  have hdoomed : t.halted = true → s.doom = true := by
    rcases step_transition hstep with ⟨-, hdoom, -, -⟩ | ⟨-, hrunning, -⟩ | ⟨-, hrunning, -⟩
    · exact fun _ => hdoom
    · exact fun hhalted => absurd (hrunning.symm.trans hhalted) Bool.false_ne_true
    · exact fun hhalted => absurd (hrunning.symm.trans hhalted) Bool.false_ne_true
  have hcfg : t.cfg = s.cfg := cfg_step hstep
  have hfaultKept : t.fault = none := by
    rw [← ht]
    exact (element_nextOf (e := .fault) rfl (s.advance n)).trans hfault
  subst ht
  exact {
    memWf := nextOf_memWf (s := s.advance n) hs.memWf i
    slots := nextOf_slots (s := s.advance n) hs.slots hwf
    strFits := hcfg ▸ nextOf_strFits (s := s.advance n) hs.strFits i
    stkFits := hcfg ▸ nextOf_stkFits (s := s.advance n) hs.stkFits i
    chScalar := nextOf_chScalar (s := s.advance n) hs.chScalar hs.keysScalar i
    dpLegal := nextOf_dpLegal (s := s.advance n) hs.dpLegal i
    haltedDoomed := fun hhalted => doom_nextOf (s := s.advance n) (hdoomed hhalted) i
    exclusive := fun _ => hfaultKept
    faultAtEp := fun rec hrec => absurd (hfaultKept.symm.trans hrec) (Option.some_ne_none rec).symm
    keysScalar := fun c hc => hs.keysScalar c (keys_nextOf_subset (s := s.advance n) i hc) }

end

/-- Settles O15: an instruction keeps each clause, and the fault records what stands in memory. -/
theorem stepKeepsInvariant : Obligations.StepKeepsInvariant := by
  intro s t hs h
  obtain ⟨hhalted, -, ⟨i, n, hdec, hexec⟩ | ⟨op, hdec, rfl⟩ | ⟨b, hdec, rfl⟩⟩ := step_next_cases h
  · exact exec_step_inv hs h hdec (nextOf_of_exec hexec)
  · exact takeFault_inv hs hhalted (backed_of_invalidOpcode hdec)
  · exact takeFault_inv hs hhalted (backed_of_invalidChoice hdec)

/-! ### The host's side: its answers, the start of a run, the status port (R43, R52, R54, R55) -/

theorem answerChar_inv {s : State} {c : Word32} (hs : s.Inv) (hc : isScalar c = true) : (s.answerChar c).Inv where
  memWf := hs.memWf
  slots := hs.slots
  strFits := hs.strFits
  stkFits := hs.stkFits
  chScalar := hs.chScalar
  dpLegal := hs.dpLegal
  haltedDoomed := hs.haltedDoomed
  exclusive := hs.exclusive
  faultAtEp := hs.faultAtEp
  keysScalar key hkey := by
    rcases List.mem_append.mp hkey with hlisted | hnew
    · exact hs.keysScalar key hlisted
    · rwa [List.mem_singleton.mp hnew]

theorem answerLine_inv {s : State} (hs : s.Inv) (ln : List Byte) : (s.answerLine ln).Inv where
  memWf := hs.memWf
  slots := hs.slots
  strFits := hs.strFits
  stkFits := hs.stkFits
  chScalar := hs.chScalar
  dpLegal := hs.dpLegal
  haltedDoomed := hs.haltedDoomed
  exclusive := hs.exclusive
  faultAtEp := hs.faultAtEp
  keysScalar := hs.keysScalar

/-- Settles O16: an answer is a write of the model's own list, and of the invariant only R54's duty speaks of it. -/
theorem hostAnswersKeepInvariant : Obligations.HostAnswersKeepInvariant :=
  fun s c ln hs hc => ⟨answerChar_inv hs hc, answerLine_inv hs ln, (portUpdate_answerChar c).keeps s,
    (portUpdate_answerLine ln).keeps s⟩

/-- Settles O11: the boot writes the image, and no other element. -/
theorem startOfRun : Obligations.StartOfRun :=
  ⟨fun _ _ => ⟨rfl, rfl, rfl, rfl⟩, congrArg State.toArchState (State.create_eq_boot_nil Params.reference),
    Memory.read_nil⟩

/-- Everything the status port can read (R52); FAULT is looked at first (assumption 15). -/
theorem status_cases (s : State) :
    (∃ rec, s.fault = some rec ∧ s.status = .fault rec) ∨
      (s.fault = none ∧ s.halted = true ∧ s.status = .halted) ∨
      (s.fault = none ∧ s.halted = false ∧ s.status = .running) := by
  unfold State.status
  cases hfault : s.fault with
  | some rec => exact .inl ⟨rec, rfl, rfl⟩
  | none =>
    cases hhalted : s.halted with
    | true => exact .inr (.inl ⟨rfl, rfl, rfl⟩)
    | false => exact .inr (.inr ⟨rfl, rfl, rfl⟩)

/-- Settles O13: the three readings exclude one another, and the exit status is given with the second alone. -/
theorem statusAndExitStatus : Obligations.StatusAndExitStatus := by
  intro s
  rcases status_cases s with ⟨rec, hfault, hstatus⟩ | ⟨hfault, hhalted, hstatus⟩ | ⟨hfault, hhalted, hstatus⟩
  · simp [State.exitStatus, State.Running, hfault, hstatus]
  · simp [State.exitStatus, State.Running, hfault, hhalted, hstatus, eq_comm]
  · simp [State.exitStatus, State.Running, hfault, hhalted, hstatus]

end Sys2Proof.Claims
